-- ==== Sys2Proof/Word.lean ====
section
/-! DEFINITION. The plain words, counts and numbered things of the NW460, as spec/00_scope.md section 4 numbers them. -/

namespace Sys2Proof

/-- A byte of the riser line, of a console frame or of a clip. -/
abbrev Byte := BitVec 8

/-- A sixteen-bit check code (00_scope.md section 4.5) or digest (R34). -/
abbrev Word := BitVec 16

/-- Floor flags (R38): bit `f` flags floor `f`. The released set and the scope of a page are held so. -/
abbrev Flags := BitVec 64

/-- A moment or a span of the station's clock, in bit times of the riser line (9,600 to the second). -/
abbrev Time := Nat

/-- A floor 0..63. -/
abbrev Floor := Fin 64

/-- Station number 1..63, held as the number less one; a listen-only station has none. -/
abbrev Sender := Fin 63

/-- Stair 1..4, held as the number less one. -/
abbrev Stair := Fin 4

/-- Bank 1..2, held as the number less one. -/
abbrev Bank := Fin 2

/-- Car 1..4 of a bank, held as the number less one. -/
abbrev Car := Fin 4

/-- Detector supply group 1..4, held as the number less one. -/
abbrev Group := Fin 4

/-- Input point IN0..IN31. -/
abbrev Point := Fin 32

/-- Speaker circuit 1..4, held as the number less one. -/
abbrev Circuit := Fin 4

/-- Phrase table entry 0..255. -/
abbrev Ref := Fin 256

/-- The item of a range 1..k that is numbered `n`, where there is one. -/
def ofNumber (k n : Nat) : Option (Fin k) :=
  if h : 1 ≤ n ∧ n ≤ k then some ⟨n - 1, by omega⟩ else none

/-- The number 1..k of an item held as its number less one. -/
def number {k : Nat} (i : Fin k) : Nat := i.val + 1

/-- The item of a range 0..k-1 that is numbered `n`, where there is one. -/
def ofIndex (k n : Nat) : Option (Fin k) :=
  if h : n < k then some ⟨n, h⟩ else none

/-- One record of a fixed table changed, the others kept. -/
def upd {α : Type} {n : Nat} (v : Vector α n) (i : Fin n) (f : α → α) : Vector α n :=
  v.set i (f v[i])

/-- Every record of a fixed table changed. -/
def each {α β : Type} {n : Nat} (v : Vector α n) (f : Fin n → α → β) : Vector β n :=
  Vector.ofFn fun i => f i v[i]

end Sys2Proof
end

