-- ==== Sys2Proof/Syntax.lean ====
section
/-! DEFINITION. The commands of the NW460: one constructor of `Instr` for each row of spec/opcode_table.json.

Every command carries `dt`, the bit times that have passed on the station's clock since the command before it
(log entry 1), and then what the event itself brings from outside the part: the level of the straps, an image read
from a store, the bytes of a bulletin or of a console frame, the state of a terminal. -/

namespace Sys2Proof

/-- How a bulletin in reception ends (R3). -/
inductive Ending
  /-- A stop bit read dominant; an error break always gives one. -/
  | framing
  /-- A gap read before the declared number of bytes has arrived. -/
  | truncated
  /-- The length byte declares more than 64 payload bytes. -/
  | overLength
  /-- The stop bit of the second check byte: all the bytes read, header, payload and check, in order. -/
  | complete (bytes : List Byte)
deriving DecidableEq, Repr

/-- The electrical state of a terminal or of a speaker sense that has been held for its filter time (R42, R179). -/
inductive Sensed
  | normal | active | openLoop | short
deriving DecidableEq, Repr

/-- The state of a speaker circuit's sense (R179). -/
inductive CircuitSense
  | normal | openLoop | short
deriving DecidableEq, Repr

/-- What the port has read of a frame that is dropped (R192, R193): a byte of it with a bad stop bit, or its bytes from
the start byte on. -/
inductive FrameFault
  | badStopBit
  | frame (bytes : List Byte)
deriving DecidableEq, Repr

/-- A type and its parameter as a point entry of the image names them, before the range check of R207. -/
inductive RawPointType
  | detector (group : Nat) | callPoint | lobby (group : Nat) | stairSmoke (stair : Nat)
  | machineRoom (bank : Nat) | hoistway (bank : Nat) | legacyCoded | legacyGeneral
  | leafPosition (stair : Nat) | lockFeedback (stair : Nat)
  | carAvailable (bank car : Nat) | carParked (bank car : Nat) | carKey (bank car : Nat)
  | mainsFail | batteryLow | level2Key | level3Key | level4Jumper
  /-- A type that R41 does not name. -/
  | unknown
deriving DecidableEq, Repr

/-- A point entry as read from the image (R41, section 12.2). -/
structure RawPoint where
  type : RawPointType
  supervised : Bool
  verification : Bool
deriving DecidableEq, Repr

/-- An output function as read from the image (section 12.2). -/
inductive RawOutput
  | none | detectorSupply (group : Nat) | leafLock (stair : Nat) | leafHold (stair : Nat)
  | recallMain (bank car : Nat) | recallAlt (bank car : Nat) | hat (bank : Nat)
  /-- A function that section 12.2 does not name. -/
  | unknown
deriving DecidableEq, Repr

/-- A code table entry as read from the image (R63). -/
structure RawCode where
  digits : List Nat
  floor : Nat
deriving DecidableEq, Repr

/-- A delegation entry as read from the image (R204). -/
structure RawDelegation where
  code : Byte
  params : List Byte
  level : Nat
deriving DecidableEq, Repr

/-- A bank entry as read from the image (R127). -/
structure RawBank where
  designated : Nat
  alternate : Nat
  carCount : Nat
  limit : Nat
deriving DecidableEq, Repr

/-- The building-wide part of the image (section 12.2), each value as the digest of R207 takes it: one byte, a capacity two. -/
structure BuildingImage where
  stairCount : Byte
  capacity : Vector Word 4
  drain : Vector Byte 4
  drainTick : Byte
  reachAbove : Byte
  reachBelow : Byte
  refresh : Byte
deriving DecidableEq, Repr

/-- The station part of the image (section 12.2). `ownFloor` absent is the value NONE. -/
structure StationImage where
  ownFloor : Option Nat
  occupancy : Nat
  shares : Vector Nat 4
  reentryFloor : Bool
  points : Vector RawPoint 32
  outputs : Vector RawOutput 24
  codes : Vector (Option RawCode) 32
  delegation : Vector (Option RawDelegation) 16
  speakers : Nat
  banks : Vector (Option RawBank) 2
  gap : Nat
deriving DecidableEq, Repr

/-- The configuration image as the memory gives it. `checkAgrees` says whether the check computed over both parts
equals the check read: section 3 of 00_scope.md gives the image by field and not as a memory map (log entry 5). -/
structure ConfigImage where
  building : BuildingImage
  station : StationImage
  checkAgrees : Bool
deriving DecidableEq, Repr

/-- A record of the phrase table image before the test of R148. -/
inductive RawPhrase
  | clip (number : Nat)
  | script (refs : List Ref)
  | link (ref : Ref)
  | rotor (refs : List Ref) (position : Nat)
  | floorSlot (base : Nat)
  | stairSlot (base : Nat)
  | empty
  /-- A kind that R146 does not name. -/
  | unknown
deriving DecidableEq, Repr

/-- The phrase table image read from the clip store (R147): the records in entry order, and whether the check
computed over them equals the check read. A store that does not answer gives one that does not agree. -/
structure PhraseImage where
  records : List RawPhrase
  checkAgrees : Bool
deriving DecidableEq, Repr

/-- A clip header as read (R172). -/
structure ClipHeader where
  number : Nat
  length : Nat
  checkAgrees : Bool
deriving DecidableEq, Repr

/-- The commands, in the order of spec/opcode_table.json. -/
inductive Instr
  /-- POWER_ON (R212). -/
  | powerOn (dt : Nat)
  /-- PIN_RESET (R212): the RESET pin is asserted. -/
  | pinReset (dt : Nat)
  /-- RESET_RELEASE (R206): the pin is released or the supply has settled; `straps` is the level of ADDR5..ADDR0. -/
  | resetRelease (dt : Nat) (straps : Fin 64)
  /-- CONFIG_IMAGE_READ (R207): the image read, or nothing where the memory did not answer within 2 s. -/
  | configImageRead (dt : Nat) (image : Option ConfigImage)
  /-- PHRASE_TABLE_LOAD (R147). -/
  | phraseTableLoad (dt : Nat) (image : PhraseImage)
  /-- RECEIVER_IDLE (R2): 11 consecutive recessive bit times have been read. -/
  | receiverIdle (dt : Nat)
  /-- TRANSMIT_START (R7). -/
  | transmitStart (dt : Nat)
  /-- ARBITRATION_LOST (R8). -/
  | arbitrationLost (dt : Nat)
  /-- ARBITRATION_WON (R8). -/
  | arbitrationWon (dt : Nat)
  /-- BIT_ERROR (R9). -/
  | bitError (dt : Nat)
  /-- ERROR_BREAK_END (R9). -/
  | errorBreakEnd (dt : Nat)
  /-- BULLETIN_END (R3). -/
  | bulletinEnd (dt : Nat) (ending : Ending)
  /-- HOLD_GAP_RELEASE (R17). -/
  | holdGapRelease (dt : Nat)
  /-- REFRESH_EXPIRY (R27). -/
  | refreshExpiry (dt : Nat)
  /-- DRAIN_TICK (R104). -/
  | drainTick (dt : Nat)
  /-- READING_TAKEN (R42): terminal `p` has shown `r` for its filter time. -/
  | readingTaken (dt : Nat) (p : Point) (r : Sensed)
  /-- SUPPLY_CUT_END (R48). -/
  | supplyCutEnd (dt : Nat) (g : Group)
  /-- WINDOW_EXPIRY (R49). -/
  | windowExpiry (dt : Nat) (p : Point)
  /-- DIGIT_CLOSE (R61). -/
  | digitClose (dt : Nat) (p : Point)
  /-- ROUND_CLOSE (R62). -/
  | roundClose (dt : Nat) (p : Point)
  /-- CONTINUOUS_RING (R63). -/
  | continuousRing (dt : Nat) (p : Point)
  /-- LOCK_FEEDBACK_TIMEOUT (R122). -/
  | lockFeedbackTimeout (dt : Nat) (st : Stair)
  /-- LEAF_CLOSING_TIMEOUT (R123). -/
  | leafClosingTimeout (dt : Nat) (st : Stair)
  /-- RECALL_TIMER_LIMIT (R139). -/
  | recallTimerLimit (dt : Nat) (b : Bank) (c : Car)
  /-- HAT_FLASH_TOGGLE (R143). -/
  | hatFlashToggle (dt : Nat) (b : Bank)
  /-- LAMP_FLASH_TOGGLE (R188). -/
  | lampFlashToggle (dt : Nat)
  /-- BUZZER_PATTERN_STEP (R189). -/
  | buzzerPatternStep (dt : Nat)
  /-- GAP_EXPIRY (R167). -/
  | gapExpiry (dt : Nat)
  /-- CLIP_HEADER_READ (R172): the header, or nothing where the store does not answer. -/
  | clipHeaderRead (dt : Nat) (header : Option ClipHeader)
  /-- BUFFER_BLOCK_FILLED (R172): the data that fills the block being filled. -/
  | bufferBlockFilled (dt : Nat) (data : List Byte)
  /-- BUFFER_BLOCK_SOUNDED (R173). -/
  | bufferBlockSounded (dt : Nat)
  /-- UNDERRUN_TIMEOUT (R173). -/
  | underrunTimeout (dt : Nat)
  /-- CLIP_END (R171). -/
  | clipEnd (dt : Nat)
  /-- TONE_END (R171). -/
  | toneEnd (dt : Nat)
  /-- PAGE_EXPIRY (R177). -/
  | pageExpiry (dt : Nat)
  /-- CIRCUIT_SENSE_TAKEN (R179). -/
  | circuitSenseTaken (dt : Nat) (n : Circuit) (r : CircuitSense)
  /-- PORT_BYTE_TIMEOUT (R192): bytes of a frame were received and more than 20 ms then passed. -/
  | portByteTimeout (dt : Nat)
  /-- PORT_FRAME_DISCARDED (R192, R193). -/
  | portFrameDiscarded (dt : Nat) (why : FrameFault)
  /-- QUERY_VIEW (R202): the frame of code 0x01 with these parameter bytes (R40); the rows below likewise. -/
  | queryView (dt : Nat) (params : List Byte)
  /-- QUERY_EVENTS (R203). -/
  | queryEvents (dt : Nat) (params : List Byte)
  /-- QUERY_STAIRS (R203). -/
  | queryStairs (dt : Nat) (params : List Byte)
  /-- ACKNOWLEDGE (R186). -/
  | acknowledge (dt : Nat) (params : List Byte)
  /-- SILENCE_ALERT (R199). -/
  | silenceAlert (dt : Nat) (params : List Byte)
  /-- UNLOCK_STAIRS (R199). -/
  | unlockStairs (dt : Nat) (params : List Byte)
  /-- SECURITY_LOCK (R119). -/
  | securityLock (dt : Nat) (params : List Byte)
  /-- SECURITY_FREE (R119). -/
  | securityFree (dt : Nat) (params : List Byte)
  /-- START_PAGE (R175). -/
  | startPage (dt : Nat) (params : List Byte)
  /-- STOP_PAGE (R175). -/
  | stopPage (dt : Nat) (params : List Byte)
  /-- RESET_REGIME (R86). -/
  | resetRegime (dt : Nat) (params : List Byte)
  /-- ISOLATE_POINT (R56). -/
  | isolatePoint (dt : Nat) (params : List Byte)
  /-- RESTORE_POINT (R57). -/
  | restorePoint (dt : Nat) (params : List Byte)
  /-- MANUAL_RECALL (R199). -/
  | manualRecall (dt : Nat) (params : List Byte)
  /-- CANCEL_RECALL (R199). -/
  | cancelRecall (dt : Nat) (params : List Byte)
  /-- TEST_ANNOUNCE (R170). -/
  | testAnnounce (dt : Nat) (params : List Byte)
  /-- SET_BUZZER_MASK (R190). -/
  | setBuzzerMask (dt : Nat) (params : List Byte)
  /-- FORCE_CHECK_ERROR (R19). -/
  | forceCheckError (dt : Nat) (params : List Byte)
  /-- RESTART_STATION (R201). -/
  | restartStation (dt : Nat) (params : List Byte)
  /-- INVOKE (R205). -/
  | invoke (dt : Nat) (params : List Byte)
  /-- ANSWER_SENT (R193): the last byte of the answer has been sent; `straps` is read if a restart follows (R206). -/
  | answerSent (dt : Nat) (straps : Fin 64)
  /-- START_BIT_READ (R2). -/
  | startBitRead (dt : Nat)
  /-- REQUEST_CODE_UNKNOWN (R194): a complete frame whose code is not in the table of R40. -/
  | requestCodeUnknown (dt : Nat) (code : Byte) (params : List Byte)
deriving DecidableEq, Repr

end Sys2Proof
end

