-- ==== Sys2Proof/Machine/Flags.lean ====
section
/-! DEFINITION. The check code of 00_scope.md section 4.5, and the floor flags of R38. -/

namespace Sys2Proof.Machine

/-- One step of the check register: a shift, and the generator x^16 + x^12 + x^5 + 1 where a one leaves it. -/
def checkShift (r : Word) : Word :=
  if r.msb then (r <<< 1) ^^^ 0x1021#16 else r <<< 1

/-- The check register after one byte, most significant bit first. -/
def checkByte (r : Word) (b : Byte) : Word :=
  let r := r ^^^ (b.setWidth 16 <<< 8)
  checkShift (checkShift (checkShift (checkShift (checkShift (checkShift (checkShift (checkShift r)))))))

/-- The check code over bytes in order: preset to all ones, no reflection, no final inversion. -/
def checkCode (bytes : List Byte) : Word :=
  bytes.foldl checkByte 0xFFFF#16

/-- A word as two bytes, most significant first. -/
def wordBytes (w : Word) : List Byte :=
  [(w >>> 8).setWidth 8, w.setWidth 8]

/-- A number as two bytes, most significant first (R38). -/
def twoBytes (n : Nat) : List Byte :=
  [BitVec.ofNat 8 (n / 256), BitVec.ofNat 8 n]

/-- The number that two bytes give, most significant first (R38). -/
def ofTwoBytes (hi lo : Byte) : Nat :=
  256 * hi.toNat + lo.toNat

/-- A number as four bytes, most significant first (section 11.5). -/
def fourBytes (n : Nat) : List Byte :=
  [BitVec.ofNat 8 (n / 16777216), BitVec.ofNat 8 (n / 65536), BitVec.ofNat 8 (n / 256), BitVec.ofNat 8 n]

/-- Floor `f` is flagged (R38: bit `j` of byte `k` flags floor 8k + j). -/
def flagged (fs : Flags) (f : Floor) : Bool :=
  fs.getLsbD f.val

/-- The flags with floor `f` added. -/
def withFlag (fs : Flags) (f : Floor) : Flags :=
  fs ||| (1#64 <<< f.val)

/-- The flags of a list of indices. -/
def flagsOf (l : List Nat) : Flags :=
  l.foldl (fun acc n => acc ||| (1#64 <<< n)) 0

/-- How many floors are flagged. -/
def flagCount (fs : Flags) : Nat :=
  ((List.finRange 64).filter (flagged fs)).length

/-- Floor flags as 8 bytes (R38). -/
def flagBytes (fs : Flags) : List Byte :=
  (List.range 8).map fun k => (fs >>> (8 * k)).setWidth 8

/-- The floor flags that bytes give, the first byte least significant (R38). -/
def flagsOfBytes (bs : List Byte) : Flags :=
  bs.foldr (fun b acc => (acc <<< 8) ||| b.setWidth 64) 0

end Sys2Proof.Machine
end

