-- ==== Sys2Proof/Config.lean ====
section
/-! DEFINITION. What a station is configured with (spec/12_start_up_configuration_and_supply.md section 12.2), in
range and by name, and the values that the manual leaves open. -/

namespace Sys2Proof

/-- Point types with their parameter (R41). -/
inductive PointType
  | detector (g : Group) | callPoint | lobby (g : Group) | stairSmoke (st : Stair)
  | machineRoom (b : Bank) | hoistway (b : Bank) | legacyCoded | legacyGeneral
  | leafPosition (st : Stair) | lockFeedback (st : Stair)
  | carAvailable (b : Bank) (c : Car) | carParked (b : Bank) (c : Car) | carKey (b : Bank) (c : Car)
  | mainsFail | batteryLow | level2Key | level3Key | level4Jumper
deriving DecidableEq, Repr

/-- The configuration of one point (R41). -/
structure PointConfig where
  type : PointType
  supervised : Bool
  verification : Bool
deriving DecidableEq, Repr

/-- Output functions (section 12.2). -/
inductive OutputFunction
  | none | detectorSupply (g : Group) | leafLock (st : Stair) | leafHold (st : Stair)
  | recallMain (b : Bank) (c : Car) | recallAlt (b : Bank) (c : Car) | hat (b : Bank)
deriving DecidableEq, Repr

/-- A code table entry (R63): a code of 1..3 digits and its floor. -/
structure CodeEntry where
  digits : List Nat
  floor : Floor
deriving DecidableEq, Repr

/-- A bank entry (R127). -/
structure BankConfig where
  designated : Floor
  alternate : Floor
  carCount : Nat
  limit : Nat
deriving DecidableEq, Repr

/-- The values every block receives from the image at step 2 of the start sequence (R207), or the defaults of R208. -/
structure StationConfig where
  /-- The station is UNCONFIGURED (R208). -/
  unconfigured : Bool
  stairCount : Nat
  /-- Capacity C_s in persons. -/
  capacity : Vector Nat 4
  /-- Drain D_s in persons a tick. -/
  drain : Vector Nat 4
  /-- Drain tick in seconds. -/
  drainTick : Nat
  reachAbove : Nat
  reachBelow : Nat
  /-- Refresh period in seconds. -/
  refresh : Nat
  /-- Absent: the own floor is not known. -/
  ownFloor : Option Floor
  occupancy : Nat
  /-- Share w_s. -/
  shares : Vector Nat 4
  reentryFloor : Bool
  points : Vector PointConfig 32
  outputs : Vector OutputFunction 24
  codes : Vector (Option CodeEntry) 32
  speakers : Nat
  banks : Vector (Option BankConfig) 2
  /-- Announcement gap in seconds. -/
  gap : Nat
  /-- The digest of the building-wide part (R34, R207). -/
  digest : Word
deriving DecidableEq, Repr

/-- FREE VALUE (log entry 8). R182 bounds a first occurrence by 4,294,967,295 s and states no value for an entry
that is created later than that. -/
opaque Config.firstOccurrenceBeyondRange : Nat → BitVec 32

/-- FREE VALUE (log entry 39). Section 11.5 gives a time of an answer four bytes and states no value for a time of more
than 4,294,967,295 s. -/
opaque Config.answerTimeBeyondRange : Nat → BitVec 32

/-- FREE VALUE (log entry 9). Section 11.5 states no code for TONE in the answer field "clip in play", which is
otherwise a clip number. -/
opaque Config.toneAnswerCode : Word

end Sys2Proof
end

