-- ==== Sys2Proof/Machine/Types.lean ====
section
/-! DEFINITION. The named values and the records that the blocks of the station hold and that bulletins carry. -/

namespace Sys2Proof.Machine

/-! ## Values that bulletins carry (R38, R39) -/

/-- Causes of a contribution, in the order of their codes (R38). -/
inductive Cause
  | detector | callPoint | legacyZone | legacyGeneral | lobby | stair | machineRoom | hoistway
deriving DecidableEq, Repr

/-- One contribution entry (R65): a floor, or GENERAL where `place` is absent, and a cause. -/
structure Entry where
  place : Option Floor
  cause : Cause
deriving DecidableEq, Repr

/-- The own-floor phase (section 4.5). -/
inductive Phase
  | normal | alert | claiming | evacuate
deriving DecidableEq, Repr

/-- The supply state (R211). -/
inductive Supply
  | mains | battery | batteryLow
deriving DecidableEq, Repr

/-- The status of a stair (R89). -/
inductive StairStatus
  | inService | smokeLogged
deriving DecidableEq, Repr

/-- The selected landing of a bank (R128). -/
inductive Landing
  | none | designated | alternate
deriving DecidableEq, Repr

/-- The recall cause of a bank (R128). -/
inductive RecallCause
  | none | fire | manual
deriving DecidableEq, Repr

/-- The state of a car (R129). -/
inductive CarState
  | normal | recalling | parked | firefighter | withdrawn
deriving DecidableEq, Repr

/-- The commands that a COMMAND bulletin carries (R39). -/
inductive Command
  | silenceAlert | unlockStairs | manualRecall (b : Bank) | cancelRecall (b : Bank)
deriving DecidableEq, Repr

/-- The scope of a page (R174). -/
inductive PageScope
  | all | floors (f : Flags)
deriving DecidableEq, Repr

/-- The content of a RELEASE (R98); `counts` holds the persons for stairs 1 to the sender's stair count. -/
structure Release where
  epoch : Nat
  floor : Floor
  forced : Bool
  counts : List Nat
deriving DecidableEq, Repr

/-- The content of a LIFT (R144). -/
structure LiftReport where
  bank : Bank
  landing : Landing
  cause : RecallCause
  cars : List CarState
deriving DecidableEq, Repr

/-- The content of a STATUS (R29). -/
structure StatusReport where
  epoch : Nat
  floor : Option Floor
  phase : Phase
  supply : Supply
  digest : Word
  loads : Vector Nat 4
  /-- Stair s is SMOKE_LOGGED. -/
  logged : Vector Bool 4
  released : Flags
  contributions : List Entry
deriving DecidableEq, Repr

/-- The payload fields of each bulletin kind (R39). -/
inductive Content
  | condition (epoch : Nat) (entries : List Entry)
  | stair (epoch : Nat) (st : Stair) (status : StairStatus)
  | release (r : Release)
  | regimeReset (epoch : Nat) (level : Nat)
  | command (cmd : Command) (level : Nat)
  | pageStart (scope : PageScope)
  | pageStop
  | lift (l : LiftReport)
  | status (r : StatusReport)
  | test (sequence : Nat)
deriving DecidableEq, Repr

/-- Bulletin classes, most urgent first (00_scope.md section 4.6). -/
inductive BulletinClass
  | fire | regime | status | routine
deriving DecidableEq, Repr

/-- The holding slots of the transmit queue: a kind, with its key where the kind has one (R12, R13). -/
inductive Slot
  | condition | stair (st : Stair) | release | regimeReset | command | page | lift (b : Bank) | status | test
deriving DecidableEq, Repr

/-! ## The Line Interface (chapter 1) -/

/-- Receiver states (R2). -/
inductive RxState
  | seeking | idle | receiving | discarding
deriving DecidableEq, Repr

/-- Transmitter states (section 1.2). -/
inductive TxState
  | off | ready | arbitrating | sending | breaking
deriving DecidableEq, Repr

/-- Where a queue entry stands (R12). -/
inductive EntryState
  | waiting | arbitrating | sending
deriving DecidableEq, Repr

/-- A transmit queue entry (R12). `withdrawn` is the model's own field: a withdrawal of R15 was asked for while the
entry stood on the line, so it takes effect when the entry returns to WAITING. -/
structure TxEntry where
  slot : Slot
  content : Content
  pending : Option Content
  cls : BulletinClass
  age : Time
  losses : Nat
  abandons : Nat
  state : EntryState
  withdrawn : Bool
deriving DecidableEq, Repr

/-- The Line Interface. `lineIdle`, `holdFrom`, `txFrom` and `breakFrom` are the model's own fields: whether the gap of
R2 has been read, since when the further gaps of R17 are counted, and when the bulletin on the line and the error break
of R9 began. `duplicateSeen`
records that a bulletin of R5 was received in the refresh period that is running. -/
structure Lif where
  rx : RxState
  lineIdle : Bool
  tx : TxState
  held : Bool
  txFault : Bool
  attemptOpen : Bool
  queue : List TxEntry
  failures : Nat
  testSequence : Nat
  duplicateSeen : Bool
  holdFrom : Option Time
  txFrom : Time
  breakFrom : Time
deriving DecidableEq, Repr

/-! ## The Bulletin Dispatcher and Roster (chapter 2) -/

/-- Presence in the roster (R30). -/
inductive Presence
  | present | lost
deriving DecidableEq, Repr

/-- A roster record (R30), keyed by the station number. -/
structure RosterRecord where
  floor : Option Floor
  presence : Presence
  silent : Nat
  lastEpoch : Option Nat
  digestAgrees : Bool
  phase : Option Phase
  supply : Option Supply
deriving DecidableEq, Repr

/-- A lift summary entry (R37): the last LIFT heard for the bank, and its sender. -/
structure LiftSummary where
  landing : Landing
  cause : RecallCause
  cars : List CarState
  sender : Sender
deriving DecidableEq, Repr

/-- The Bulletin Dispatcher and Roster. `rejectedSeen` records, by sender, that a bulletin was rejected in the refresh
period that is running (R23). -/
structure Bdr where
  roster : Vector (Option RosterRecord) 63
  summary : Vector (Option LiftSummary) 2
  refreshNext : Option Time
  rejectedSeen : Vector Bool 63
deriving DecidableEq, Repr

/-! ## The Point Unit (chapter 3) -/

/-- Readings of a point (R41). -/
inductive Reading
  | untaken | normal | active | openLoop | short
deriving DecidableEq, Repr

/-- Logical states of a point (R44); ACTIVE is that of the passing types. -/
inductive Logical
  | normal | preAlarm | confirming | fire | active
deriving DecidableEq, Repr

/-- States of the coded decoder (R59). -/
inductive DecoderState
  | quiet | pulse | gap | spoiled
deriving DecidableEq, Repr

/-- The decoder record of a LEGACY_CODED point (R59). `continuous` is the moment since which the continuous timer
runs, absent while it is stopped. -/
structure Decoder where
  state : DecoderState
  closed : List Nat
  count : Nat
  lastPulseEnd : Option Time
  pulseStart : Option Time
  candidate : Option (List Nat)
  continuous : Option Time
  lastDecoded : Option (List Nat)
  lastUnknown : Option (List Nat)
deriving DecidableEq, Repr

/-- The working fields of a point (R41); `lastGood` is `some true` for ACTIVE and `some false` for NORMAL.
`filterFrom` and `renew` are the model's own fields: when the filter last started afresh (R42, R48, R57), and that the
next good reading counts as a change from NORMAL, after a verification cancelled at an epoch change (R50, R58). -/
structure PointRecord where
  reading : Reading
  lastGood : Option Bool
  isolated : Bool
  logical : Logical
  unconfirmed : Nat
  armed : Bool
  windowExpiry : Option Time
  decoder : Decoder
  filterFrom : Time
  renew : Bool
deriving DecidableEq, Repr

/-- The Point Unit. A supply group is CUT while `cuts` holds the end of its cut, else RUNNING (R48). -/
structure Ptu where
  points : Vector PointRecord 32
  cuts : Vector (Option Time) 4
deriving DecidableEq, Repr

/-! ## The Regime Unit (chapter 4) -/

/-- The claim mode of the Regime Unit, in the order of the table of section 4.5. -/
inductive ClaimMode
  | none | forced | nonForced
deriving DecidableEq, Repr

/-- The record of a fire floor in the floor condition map (R70). A floor without one shows fire no, lobby fire no and
empty lists. -/
structure FireFloor where
  floor : Floor
  lobby : Bool
  causes : List Cause
  reporting : List Sender
deriving DecidableEq, Repr

/-- The floor condition map (R70): the general record, and the records of the fire floors in ascending order. -/
structure FloorMap where
  general : Bool
  generalCauses : List Cause
  generalReporting : List Sender
  fires : List FireFloor
deriving DecidableEq, Repr

/-- The Regime Unit. -/
structure Rgu where
  own : List Entry
  stored : Vector (Option (List Entry)) 63
  map : FloorMap
  phase : Phase
  mode : ClaimMode
  epoch : Nat
  silence : Bool
deriving DecidableEq, Repr

/-! ## The Stair Admission Unit (chapter 5) -/

/-- A stair queue record (R92); a synthetic record has no floor. -/
structure QueueRecord where
  floor : Option Floor
  persons : Nat
  epoch : Nat
deriving DecidableEq, Repr

/-- The claim field of the claim record (R98). -/
inductive ClaimState
  | none | queued | fixed
deriving DecidableEq, Repr

/-- The mode of a claim record (R98), in the order of that rule. -/
inductive ClaimSort
  | forced | nonForced
deriving DecidableEq, Repr

/-- The claim record (R98). -/
structure Claim where
  state : ClaimState
  mode : ClaimSort
  content : Release
  oldCopy : Bool
deriving DecidableEq, Repr

/-- The Stair Admission Unit. -/
structure Sau where
  status : Vector StairStatus 4
  smokeOffer : Vector (Option Nat) 4
  queues : Vector (List QueueRecord) 4
  released : Flags
  assigned : List Stair
  claim : Claim
  drainNext : Option Time
deriving DecidableEq, Repr

/-! ## The Leaf Controller (chapter 6) -/

/-- Re-entry lock commands (R112). -/
inductive LockCommand
  | locked | released
deriving DecidableEq, Repr

/-- Hold commands (R112). -/
inductive HoldCommand
  | held | dropped
deriving DecidableEq, Repr

/-- The feedback field (R112). -/
inductive Feedback
  | following | notFollowing
deriving DecidableEq, Repr

/-- The position field (R112). -/
inductive LeafPosition
  | closed | opened
deriving DecidableEq, Repr

/-- The security override of a leaf (R119), kept beneath UNLOCK_ALL. -/
inductive Security
  | none | lock | free
deriving DecidableEq, Repr

/-- A leaf record (R112). `engaged` is the lock feedback value that the Point Unit passed last (R113). -/
structure LeafRecord where
  lock : LockCommand
  hold : HoldCommand
  feedback : Option Feedback
  feedbackFrom : Option Time
  position : Option LeafPosition
  closingFrom : Option Time
  security : Security
  engaged : Option Bool
deriving DecidableEq, Repr

/-- The Leaf Controller: a record for each stair that has one (R112), and the unlock-all flag. -/
structure Lfc where
  leaves : Vector (Option LeafRecord) 4
  unlockAll : Bool
deriving DecidableEq, Repr

/-! ## The Lift Unit (chapter 7) -/

/-- The recall output of a car (R129). -/
inductive RecallOutput
  | none | main | alt
deriving DecidableEq, Repr

/-- The hat of a bank (R128). -/
inductive Hat
  | off | steady | flashing
deriving DecidableEq, Repr

/-- A car record (R129). -/
structure CarRecord where
  state : CarState
  output : RecallOutput
  timer : Option Time
  available : Bool
  parked : Bool
  key : Bool
deriving DecidableEq, Repr

/-- A bank record (R128) with its car records. `hatOn` and `hatFrom` are the half-second rhythm of a FLASHING hat
(R143). -/
structure BankRecord where
  fireLatch : Bool
  manual : Bool
  cause : RecallCause
  landing : Landing
  alarm : Bool
  hat : Hat
  hatOn : Bool
  hatFrom : Time
  cars : Vector CarRecord 4
deriving DecidableEq, Repr

/-- The Lift Unit: a record for each bank that the configuration names (R127). -/
structure Lfu where
  banks : Vector (Option BankRecord) 2
deriving DecidableEq, Repr

/-! ## The Announcement Composer (chapter 8) -/

/-- A phrase table entry (R146). -/
inductive Phrase
  | clip (number : Nat)
  | script (refs : List Ref)
  | link (ref : Ref)
  | rotor (refs : List Ref) (position : Nat)
  | floorSlot (base : Nat)
  | stairSlot (base : Nat)
  | empty
deriving DecidableEq, Repr

/-- Table states (R150, R147). -/
inductive TableState
  | unloaded | good | degraded | bad
deriving DecidableEq, Repr

/-- The role entries 1 to 6 (R151). -/
inductive Role
  | evacuate | alert | allClear | test | stairChanged | noStair
deriving DecidableEq, Repr

/-- Causes of a failed walk (R157). -/
inductive WalkCause
  | depth | emptyEntry | tooLong | clipRange | noFloor
deriving DecidableEq, Repr

/-- The failure that ended a walk (R157). -/
structure WalkFailure where
  cause : WalkCause
  entry : Ref
  level : Nat
deriving DecidableEq, Repr

/-- The failure record (R158). -/
structure FailureRecord where
  roles : List Role
  failure : WalkFailure
  seconds : Nat
deriving DecidableEq, Repr

/-- The Announcement Composer. -/
structure Acu where
  table : Vector Phrase 256
  state : TableState
  invalid : Nat
  trialFailures : List Role
  failure : Option FailureRecord
deriving DecidableEq, Repr

/-! ## The Playback Unit (chapter 9) -/

/-- Phase programs (R164). -/
inductive Program
  | none | alert | evacuate
deriving DecidableEq, Repr

/-- One-shots (R169). -/
inductive OneShot
  | allClear | test
deriving DecidableEq, Repr

/-- Playback states (R164). -/
inductive Playback
  | silent | playing | gap | paged
deriving DecidableEq, Repr

/-- A clip of the speaker queue: a clip number, or the built-in tone (R158, R164). -/
inductive Clip
  | clip (number : Nat) | tone
deriving DecidableEq, Repr

/-- An announcement in the speaker queue (R164). -/
structure Announcement where
  roles : List Role
  clips : List Clip
deriving DecidableEq, Repr

/-- States of a buffer block (R172). -/
inductive BlockState
  | empty | filling | full | playing
deriving DecidableEq, Repr

/-- A buffer block of up to 256 bytes (R172). -/
structure Block where
  state : BlockState
  data : List Byte
deriving DecidableEq, Repr

/-- What the clip store channel is doing (R172): nothing, reading the header of the clip in play, or fetching its
data, of which `left` bytes have not yet been put into a block. -/
inductive Channel
  | stopped | header | data (left : Nat)
deriving DecidableEq, Repr

/-- How a page ended (R174). -/
inductive PageEnd
  | stop | ownerLost | timeout | superseded
deriving DecidableEq, Repr

/-- The own page request (R174). -/
inductive OwnRequest
  | none | startPending | late | owned | stopPending | stopLate
deriving DecidableEq, Repr

/-- The fields of the page view that are present while the page is ACTIVE (R174). -/
structure ActivePage where
  owner : Sender
  scope : PageScope
  expiry : Time
deriving DecidableEq, Repr

/-- The Playback Unit. `allClearDue` belongs to a change that is pending: it came from a phase notice that took the
phase to NORMAL (R166). `toneFrom` and `underrunFrom` are when the tone began and when the underrun began (R171, R173).
`soundFrom` is when the samples of the clip in play began to sound, or resumed after an underrun, and `sounded` how many
of them had been sounded since then when the PLAYING block began (R171). -/
structure Pbu where
  program : Program
  oneShots : List OneShot
  playback : Playback
  changePending : Bool
  allClearDue : Bool
  waiting : Option (List Role)
  lastNamed : List Stair
  gapExpiry : Option Time
  queue : List Announcement
  inPlay : Option Clip
  toneFrom : Time
  soundFrom : Time
  sounded : Nat
  underruns : Nat
  underrunFrom : Option Time
  faulted : List Nat
  channel : Channel
  blocks : Vector Block 2
  page : Option ActivePage
  inScope : Bool
  lastEnd : Option PageEnd
  ownRequest : OwnRequest
  circuits : Vector (Option CircuitSense) 4
deriving DecidableEq, Repr

/-! ## The Event List and Annunciator (chapter 10) -/

/-- Event classes, highest first (section 10.2). -/
inductive EventClass
  | fire | supervisory | fault | notice
deriving DecidableEq, Repr

/-- The internal sources, in the order of R181. -/
inductive Internal
  | lineTx | lineRx | config | clipStore | supply | console
deriving DecidableEq, Repr

/-- Event sources (R181). -/
inductive Source
  | point (p : Point) | leaf (st : Stair) | car (b : Bank) (c : Car) | bank (b : Bank) | station (n : Sender)
  | internal (i : Internal)
deriving DecidableEq, Repr

/-- The conditions of section 10.4, in the order of their codes (section 11.5). -/
inductive Condition
  | alarm | detectorUnstable | isolated | openCircuit | shortCircuit | codeUnknown | contributionFull | verifying
  | leafNotClosed | reentryRefused | lockNotFollowing | securityOverride
  | carUnavailable | carNotRecalled | noSafeLanding
  | fireReported | stationLost | configDiffer | floorDuplicate | duplicateStation | bulletinRejected
  | lineTx | lineRxDegraded | checkTestFailed | checkTestPassed
  | configBad | phraseTableBad | phraseFault | clipFault | circuitFault (n : Circuit)
  | supply | alertSilenced | stairsUnlocked | pageHeld | buzzerMasked
deriving DecidableEq, Repr

/-- States of an event list entry (R182). -/
inductive EventState
  | activeUnack | activeAck | clearedUnack
deriving DecidableEq, Repr

/-- An entry of the event list (R182). -/
structure EventEntry where
  source : Source
  active : List Condition
  seen : List Condition
  cls : EventClass
  state : EventState
  first : Nat
  count : Nat
deriving DecidableEq, Repr

/-- The buzzer mask (R190). -/
structure BuzzerMask where
  supervisory : Bool
  fault : Bool
  notice : Bool
deriving DecidableEq, Repr

/-- The Event List and Annunciator. `entries` stands in ascending order of source number. The lamps flash on one
rhythm, whose half-second has stood at `lampOn` since `lampFrom`; the pattern of the buzzer has stood at `buzzerOn`
since `buzzerFrom` (R188, R189). -/
structure Eva where
  entries : List EventEntry
  mask : BuzzerMask
  sounding : Option EventClass
  buzzerOn : Bool
  buzzerFrom : Time
  lampOn : Bool
  lampFrom : Time
deriving DecidableEq, Repr

/-! ## The Console Port (chapter 11) -/

/-- Request codes with their parameters in range (R40, R194). -/
inductive Request
  | queryView (view : Fin 4) (item : Nat)
  | queryEvents (first : Nat)
  | queryStairs
  | acknowledge
  | silenceAlert
  | unlockStairs
  | securityLock (st : Stair)
  | securityFree (st : Stair)
  | startPage (scope : PageScope)
  | stopPage
  | resetRegime
  | isolatePoint (p : Point)
  | restorePoint (p : Point)
  | manualRecall (b : Bank)
  | cancelRecall (b : Bank)
  | testAnnounce
  | setBuzzerMask (mask : BuzzerMask)
  | forceCheckError
  | restartStation
  | invoke (n : Nat)
deriving DecidableEq, Repr

/-- A delegation entry that is present (R204): the request, as it stands in the image and as R194 reads it, and the
required level. -/
structure Delegation where
  code : Byte
  params : List Byte
  request : Request
  level : Nat
deriving DecidableEq, Repr

/-- Answer codes (R40). -/
inductive Answer
  | accepted | range | absent | level | state | busy
deriving DecidableEq, Repr

/-- The request in hand (R193): its code, the answer frame once it is known, and whether a restart follows (R201). -/
structure InHand where
  code : Byte
  answer : Option (List Byte)
  restart : Bool
deriving DecidableEq, Repr

/-- The receiver of the port (R192). -/
inductive PortRx
  | hunting | collecting
deriving DecidableEq, Repr

/-- The Console Port. -/
structure Cpt where
  rx : PortRx
  inHand : Option InHand
  key2 : Bool
  key3 : Bool
  jumper4 : Bool
  delegation : Vector (Option Delegation) 16
  dropped : Nat
  /-- COMMAND entries queued, 0..2 (R199). -/
  commands : Nat
  errors : Nat
deriving DecidableEq, Repr

/-! ## The Start-up and Supply Unit (chapter 12) -/

/-- Join states (R206). -/
inductive Join
  | starting | joining | joined
deriving DecidableEq, Repr

/-- Where the start sequence of R206 stands: held in reset, waiting for the image, waiting for the phrase table, or
ended with the entry to JOINING. -/
inductive Stage
  | held | image | phraseTable | done
deriving DecidableEq, Repr

/-- The Start-up and Supply Unit. `expiries` counts the refresh expiries since the entry to JOINING (R210). -/
structure Ssu where
  join : Join
  stage : Stage
  /-- Absent: a listen-only station, or straps not yet read. -/
  station : Option Sender
  supply : Supply
  mainsFailed : Bool
  batteryLow : Bool
  expiries : Nat
  config : StationConfig
deriving DecidableEq, Repr

end Sys2Proof.Machine
end

