-- ==== Sys2Proof/Machine/Operands.lean ====
section
/-! DEFINITION. The operand forms of the part: bulletin payloads (R38, R39) and request parameters (R40, R194), each
written from its layout, read and checked field by field. -/

namespace Sys2Proof.Machine

/-! ## Codes (R38) -/

/-- R38, Cause. -/
def causeCode : Cause → Nat
  | .detector => 0 | .callPoint => 1 | .legacyZone => 2 | .legacyGeneral => 3
  | .lobby => 4 | .stair => 5 | .machineRoom => 6 | .hoistway => 7

/-- The causes in the order of their codes. -/
def allCauses : List Cause :=
  [.detector, .callPoint, .legacyZone, .legacyGeneral, .lobby, .stair, .machineRoom, .hoistway]

def causeOfCode (n : Nat) : Option Cause := allCauses[n]?

/-- R38, Phase. -/
def phaseCode : Phase → Nat
  | .normal => 0 | .alert => 1 | .claiming => 2 | .evacuate => 3

def phaseOfCode : Nat → Option Phase
  | 0 => some .normal | 1 => some .alert | 2 => some .claiming | 3 => some .evacuate | _ => none

/-- R38, Supply. -/
def supplyCode : Supply → Nat
  | .mains => 0 | .battery => 1 | .batteryLow => 2

def supplyOfCode : Nat → Option Supply
  | 0 => some .mains | 1 => some .battery | 2 => some .batteryLow | _ => none

/-- R39, LIFT, selected landing. -/
def landingCode : Landing → Nat
  | .none => 0 | .designated => 1 | .alternate => 2

def landingOfCode : Nat → Option Landing
  | 0 => some .none | 1 => some .designated | 2 => some .alternate | _ => none

/-- R39, LIFT, recall cause. -/
def recallCauseCode : RecallCause → Nat
  | .none => 0 | .fire => 1 | .manual => 2

def recallCauseOfCode : Nat → Option RecallCause
  | 0 => some .none | 1 => some .fire | 2 => some .manual | _ => none

/-- R39, LIFT, state of a car. -/
def carStateCode : CarState → Nat
  | .normal => 0 | .recalling => 1 | .parked => 2 | .firefighter => 3 | .withdrawn => 4

def carStateOfCode : Nat → Option CarState
  | 0 => some .normal | 1 => some .recalling | 2 => some .parked | 3 => some .firefighter | 4 => some .withdrawn
  | _ => none

/-- R38, class bits of the arbitration byte; a lower number is more urgent. -/
def classCode : BulletinClass → Nat
  | .fire => 0 | .regime => 1 | .status => 2 | .routine => 3

/-! ## Kinds -/

/-- The holding slot that a content fills (R12, R13). -/
def Content.slot : Content → Slot
  | .condition .. => .condition
  | .stair _ st _ => .stair st
  | .release .. => .release
  | .regimeReset .. => .regimeReset
  | .command .. => .command
  | .pageStart .. => .page
  | .pageStop => .page
  | .lift l => .lift l.bank
  | .status .. => .status
  | .test .. => .test

/-- The classes of the kinds (R13). -/
def Slot.cls : Slot → BulletinClass
  | .condition => .fire
  | .stair _ => .fire
  | .release => .regime
  | .regimeReset => .regime
  | .command => .regime
  | .page => .regime
  | .lift _ => .status
  | .status => .status
  | .test => .routine

/-- R38, byte 1. -/
def Content.kind : Content → Byte
  | .condition .. => 0x21
  | .stair .. => 0x22
  | .release .. => 0x31
  | .regimeReset .. => 0x32
  | .command .. => 0x33
  | .pageStart .. => 0x34
  | .pageStop => 0x34
  | .lift .. => 0x41
  | .status .. => 0x42
  | .test .. => 0x51

/-- The epoch that a content carries, for the kinds that carry one (section 2.1). -/
def Content.epoch? : Content → Option Nat
  | .condition e _ => some e
  | .stair e _ _ => some e
  | .release r => some r.epoch
  | .regimeReset e _ => some e
  | .status r => some r.epoch
  | _ => none

/-! ## Writing payloads -/

def oneByte (n : Nat) : Byte := BitVec.ofNat 8 n

/-- R38: floor (255 for GENERAL), then cause. -/
def entryBytes (e : Entry) : List Byte :=
  [match e.place with | some f => oneByte f.val | none => 255, oneByte (causeCode e.cause)]

def entriesBytes (l : List Entry) : List Byte := l.flatMap entryBytes

def commandCode : Command → Nat
  | .silenceAlert => 1 | .unlockStairs => 2 | .manualRecall _ => 3 | .cancelRecall _ => 4

/-- The bank of a command, sent as 0 for commands 1 and 2 (R39). -/
def commandBank : Command → Nat
  | .manualRecall b => number b | .cancelRecall b => number b | _ => 0

def scopeBytes : PageScope → List Byte
  | .all => 1 :: flagBytes 0
  | .floors f => 0 :: flagBytes f

/-- R39, stair statuses: bit s - 1 set where stair s is SMOKE_LOGGED. -/
def loggedByte (v : Vector Bool 4) : Byte :=
  oneByte ((if v[0] then 1 else 0) + (if v[1] then 2 else 0) + (if v[2] then 4 else 0) + (if v[3] then 8 else 0))

/-- The payload of a content (R39). -/
def Content.payload : Content → List Byte
  | .condition e l => twoBytes e ++ oneByte l.length :: entriesBytes l
  | .stair e st v => twoBytes e ++ [oneByte (number st), if v = .smokeLogged then 1 else 0]
  | .release r =>
    twoBytes r.epoch ++ [oneByte r.floor.val, if r.forced then 1 else 0, oneByte r.counts.length]
      ++ r.counts.flatMap twoBytes
  | .regimeReset e level => twoBytes e ++ [oneByte level]
  | .command cmd level => [oneByte (commandCode cmd), oneByte (commandBank cmd), oneByte level]
  | .pageStart scope => 1 :: scopeBytes scope
  | .pageStop => [2]
  | .lift l =>
    [oneByte (number l.bank), oneByte (landingCode l.landing), oneByte (recallCauseCode l.cause), oneByte l.cars.length]
      ++ l.cars.map (fun c => oneByte (carStateCode c))
  | .status r =>
    twoBytes r.epoch
      ++ [match r.floor with | some f => oneByte f.val | none => 255, oneByte (phaseCode r.phase), oneByte (supplyCode r.supply)]
      ++ wordBytes r.digest
      ++ twoBytes r.loads[0] ++ twoBytes r.loads[1] ++ twoBytes r.loads[2] ++ twoBytes r.loads[3]
      ++ loggedByte r.logged :: flagBytes r.released
      ++ oneByte r.contributions.length :: entriesBytes r.contributions
  | .test n => [oneByte n]

/-- A bulletin as its sender puts it on the line (R1, R38): arbitration byte, kind, length, payload and check; the
check bytes of a TEST are inverted (R19). -/
def bulletinBytes (cls : BulletinClass) (sender : Sender) (c : Content) : List Byte :=
  let body := oneByte (64 * classCode cls + number sender) :: c.kind :: oneByte c.payload.length :: c.payload
  let check := checkCode body
  body ++ wordBytes (match c with | .test _ => ~~~check | _ => check)

/-! ## Reading payloads (R23) -/

/-- A contribution entry, its floor 0..63 or 255 and its cause 0..7. -/
def readEntry (place cause : Byte) : Option Entry :=
  match causeOfCode cause.toNat with
  | none => none
  | some c =>
    if place = 255 then some ⟨none, c⟩
    else match ofIndex 64 place.toNat with
      | some f => some ⟨some f, c⟩
      | none => none

def readEntries : List Byte → Option (List Entry)
  | [] => some []
  | [_] => none
  | a :: b :: rest =>
    match readEntry a b, readEntries rest with
    | some e, some l => some (e :: l)
    | _, _ => none

/-- The contribution entries of a list whose count byte is `n`: at most 16, and as many as the count says. -/
def readEntryList (n : Byte) (rest : List Byte) : Option (List Entry) :=
  if n.toNat ≤ 16 ∧ rest.length = 2 * n.toNat then readEntries rest else none

/-- Person counts of a RELEASE, each 0..1023. -/
def readCounts : List Byte → Option (List Nat)
  | [] => some []
  | [_] => none
  | a :: b :: rest =>
    match readCounts rest with
    | some l => if ofTwoBytes a b ≤ 1023 then some (ofTwoBytes a b :: l) else none
    | none => none

def readCarStates : List Byte → Option (List CarState)
  | [] => some []
  | a :: rest =>
    match carStateOfCode a.toNat, readCarStates rest with
    | some c, some l => some (c :: l)
    | _, _ => none

/-- R39: the own floor of a STATUS, 0..63, or 255 for not known. -/
def readFloor? (b : Byte) : Option (Option Floor) :=
  if b = 255 then some none else (ofIndex 64 b.toNat).map some

def levelOk (b : Byte) : Bool := 1 ≤ b.toNat && b.toNat ≤ 4

def readCondition : List Byte → Option Content
  | e1 :: e0 :: n :: rest => (readEntryList n rest).map fun l => .condition (ofTwoBytes e1 e0) l
  | _ => none

def readStair : List Byte → Option Content
  | [e1, e0, st, status] =>
    match ofNumber 4 st.toNat, status.toNat with
    | some i, 0 => some (.stair (ofTwoBytes e1 e0) i .inService)
    | some i, 1 => some (.stair (ofTwoBytes e1 e0) i .smokeLogged)
    | _, _ => none
  | _ => none

def readRelease : List Byte → Option Content
  | e1 :: e0 :: f :: forced :: n :: rest =>
    match ofIndex 64 f.toNat, readCounts rest with
    | some floor, some counts =>
      if forced.toNat ≤ 1 ∧ 1 ≤ n.toNat ∧ n.toNat ≤ 4 ∧ rest.length = 2 * n.toNat then
        some (.release ⟨ofTwoBytes e1 e0, floor, forced.toNat == 1, counts⟩)
      else none
    | _, _ => none
  | _ => none

def readRegimeReset : List Byte → Option Content
  | [e1, e0, level] =>
    if 1 ≤ ofTwoBytes e1 e0 ∧ levelOk level then some (.regimeReset (ofTwoBytes e1 e0) level.toNat) else none
  | _ => none

/-- The bank byte of commands 1 and 2 is not read (R38). -/
def readCommand : List Byte → Option Content
  | [cmd, bank, level] =>
    if levelOk level then
      match cmd.toNat, ofNumber 2 bank.toNat with
      | 1, _ => some (.command .silenceAlert level.toNat)
      | 2, _ => some (.command .unlockStairs level.toNat)
      | 3, some b => some (.command (.manualRecall b) level.toNat)
      | 4, some b => some (.command (.cancelRecall b) level.toNat)
      | _, _ => none
    else none
  | _ => none

/-- The scope and floor flags of a PAGE START or a START_PAGE request; the flags are not read for ALL, and at least
one is set for LIST. -/
def readScope (scope : Byte) (flags : List Byte) : Option PageScope :=
  if flags.length = 8 then
    match scope.toNat with
    | 0 => if flagsOfBytes flags = 0 then none else some (.floors (flagsOfBytes flags))
    | 1 => some .all
    | _ => none
  else none

def readPage : List Byte → Option Content
  | [action] => if action.toNat = 2 then some .pageStop else none
  | action :: scope :: flags => if action.toNat = 1 then (readScope scope flags).map .pageStart else none
  | [] => none

def readLift : List Byte → Option Content
  | bank :: landing :: cause :: n :: cars =>
    match ofNumber 2 bank.toNat, landingOfCode landing.toNat, recallCauseOfCode cause.toNat, readCarStates cars with
    | some b, some l, some c, some states =>
      if 1 ≤ n.toNat ∧ n.toNat ≤ 4 ∧ cars.length = n.toNat then some (.lift ⟨b, l, c, states⟩) else none
    | _, _, _, _ => none
  | _ => none

/-- Bits 7..4 of the stair statuses are not read (R38). -/
def readLogged (b : Byte) : Vector Bool 4 :=
  #v[b.getLsbD 0, b.getLsbD 1, b.getLsbD 2, b.getLsbD 3]

def readStatus : List Byte → Option Content
  | e1 :: e0 :: fl :: ph :: su :: d1 :: d0 :: a1 :: a0 :: b1 :: b0 :: c1 :: c0 :: g1 :: g0 :: st
      :: r0 :: r1 :: r2 :: r3 :: r4 :: r5 :: r6 :: r7 :: n :: rest =>
    match readFloor? fl, phaseOfCode ph.toNat, supplyOfCode su.toNat, readEntryList n rest with
    | some floor, some phase, some supply, some l =>
      some (.status
        { epoch := ofTwoBytes e1 e0, floor, phase, supply, digest := d1 ++ d0
          loads := #v[ofTwoBytes a1 a0, ofTwoBytes b1 b0, ofTwoBytes c1 c0, ofTwoBytes g1 g0]
          logged := readLogged st, released := flagsOfBytes [r0, r1, r2, r3, r4, r5, r6, r7], contributions := l })
    | _, _, _, _ => none
  | _ => none

def readTest : List Byte → Option Content
  | [n] => some (.test n.toNat)
  | _ => none

/-- The content of a payload of a kind, where R23 does not reject it. -/
def readPayload (kind : Byte) (p : List Byte) : Option Content :=
  match kind.toNat with
  | 0x21 => readCondition p
  | 0x22 => readStair p
  | 0x31 => readRelease p
  | 0x32 => readRegimeReset p
  | 0x33 => readCommand p
  | 0x34 => readPage p
  | 0x41 => readLift p
  | 0x42 => readStatus p
  | 0x51 => readTest p
  | _ => none

/-- A good bulletin as the LIF hands it on (R4): its sender, its kind byte and its payload. -/
structure Heard where
  sender : Sender
  kind : Byte
  payload : List Byte
deriving DecidableEq, Repr

/-- The verdict of R3 on a bulletin that is complete: good where the check agrees and the station number is 1..63.
Bytes that are not as many as the length byte declares are no complete bulletin, and fail. -/
def judge (bytes : List Byte) : Option Heard :=
  match bytes with
  | arb :: kind :: len :: rest =>
    let payload := rest.take len.toNat
    if len.toNat ≤ 64 ∧ rest.length = len.toNat + 2
        ∧ rest.drop len.toNat = wordBytes (checkCode (arb :: kind :: len :: payload)) then
      (ofNumber 63 (arb.toNat % 64)).map fun sender => { sender, kind, payload }
    else none
  | _ => none

/-! ## Request parameters (R40, R194) -/

/-- Items that R202 lists for section 0. -/
def viewItem (n : Nat) : Bool := n ≤ 11 || (16 ≤ n && n ≤ 47)

def readQueryView : List Byte → Option Request
  | [view, item] =>
    match ofIndex 4 view.toNat with
    | some v =>
      if item.toNat ≤ 63 ∧ (v = 0 → viewItem item.toNat) then some (.queryView v item.toNat) else none
    | none => none
  | _ => none

def readMask : List Byte → Option Request
  | [m] => if m.toNat < 8 then some (.setBuzzerMask ⟨m.getLsbD 0, m.getLsbD 1, m.getLsbD 2⟩) else none
  | _ => none

def readStartPage : List Byte → Option Request
  | scope :: flags => (readScope scope flags).map .startPage
  | [] => none

/-- A request that has no parameter. -/
def noParameter (r : Request) : List Byte → Option Request
  | [] => some r
  | _ => none

/-- A request whose one parameter is a number 1..k. -/
def numbered (k : Nat) (r : Fin k → Request) : List Byte → Option Request
  | [n] => (ofNumber k n.toNat).map r
  | _ => none

/-- A request whose one parameter is a number 0..k-1. -/
def indexed (k : Nat) (r : Fin k → Request) : List Byte → Option Request
  | [n] => (ofIndex k n.toNat).map r
  | _ => none

/-- The validation of R194: the request of a code and its parameter bytes, or none where it is answered RANGE. -/
def readRequest (code : Byte) (params : List Byte) : Option Request :=
  match code.toNat with
  | 0x01 => readQueryView params
  | 0x02 => indexed 128 (fun n => .queryEvents n.val) params
  | 0x03 => noParameter .queryStairs params
  | 0x11 => noParameter .acknowledge params
  | 0x12 => noParameter .silenceAlert params
  | 0x13 => noParameter .unlockStairs params
  | 0x14 => numbered 4 .securityLock params
  | 0x15 => numbered 4 .securityFree params
  | 0x16 => readStartPage params
  | 0x17 => noParameter .stopPage params
  | 0x21 => noParameter .resetRegime params
  | 0x22 => indexed 32 .isolatePoint params
  | 0x23 => indexed 32 .restorePoint params
  | 0x24 => numbered 2 .manualRecall params
  | 0x25 => numbered 2 .cancelRecall params
  | 0x26 => noParameter .testAnnounce params
  | 0x27 => readMask params
  | 0x31 => noParameter .forceCheckError params
  | 0x32 => noParameter .restartStation params
  | 0x40 => indexed 64 (fun n => .invoke n.val) params
  | _ => none

/-- The request codes of R40. -/
def knownCode (code : Byte) : Bool :=
  [0x01, 0x02, 0x03, 0x11, 0x12, 0x13, 0x14, 0x15, 0x16, 0x17, 0x21, 0x22, 0x23, 0x24, 0x25, 0x26, 0x27, 0x31, 0x32,
    0x40].contains code.toNat

/-! ## Request frames (R40, R192) -/

/-- A request frame as a console sends it: start byte, length, code, parameters, and check (R40). -/
def requestBytes (code : Byte) (params : List Byte) : List Byte :=
  let body := oneByte (1 + params.length) :: code :: params
  0x5A :: body ++ wordBytes (checkCode body)

/-- What the receiver of the port makes of the bytes of a frame (R192). -/
inductive FrameVerdict
  /-- No frame has begun, or it has not come to its end. -/
  | unfinished
  /-- Abandoned at its length byte, or discarded at its check. -/
  | dropped
  | complete (code : Byte) (params : List Byte)
deriving DecidableEq, Repr

/-- The verdict of R192 on the bytes of a frame: the start byte begins it, its length byte is 1..17, and its check agrees
over the length byte and the bytes that the length counts. -/
def judgeFrame (bytes : List Byte) : FrameVerdict :=
  match bytes with
  | start :: len :: rest =>
    if start ≠ 0x5A then .unfinished
    else if len.toNat = 0 ∨ 17 < len.toNat then .dropped
    else if rest.length < len.toNat + 2 then .unfinished
    else
      match rest.take len.toNat with
      | code :: params =>
        if (rest.drop len.toNat).take 2 = wordBytes (checkCode (len :: code :: params)) then .complete code params
        else .dropped
      | [] => .dropped
  | _ => .unfinished

/-! ## Answer frames (R40) -/

/-- R40, byte 2 of an answer frame. -/
def answerCode : Answer → Nat
  | .accepted => 0 | .range => 1 | .absent => 2 | .level => 3 | .state => 4 | .busy => 5

/-- An answer frame: start byte, length, answer code, data with ACCEPTED only, and check. -/
def answerFrame (a : Answer) (data : List Byte) : List Byte :=
  let data := if a = .accepted then data else []
  let body := oneByte (1 + data.length) :: oneByte (answerCode a) :: data
  0x5B :: body ++ wordBytes (checkCode body)

end Sys2Proof.Machine
end

