-- ==== Sys2Proof/Machine/Timing.lean ====
section
/-! DEFINITION. The durations of the manual in bit times, and the values of the UNCONFIGURED station (R208). -/

namespace Sys2Proof.Machine

/-- `n` seconds at 9,600 bit times a second. -/
def seconds (n : Nat) : Time := 9600 * n

/-- `n` milliseconds; exact for every duration that the manual gives. -/
def millis (n : Nat) : Time := 48 * n / 5

/-- Whole seconds in a span. -/
def wholeSeconds (t : Time) : Nat := t / 9600

/-- Input state filter (R42). -/
def filterTime : Time := millis 150

/-- NORMAL and ACTIVE on a LEGACY_CODED point (R42). -/
def codedFilterTime : Time := millis 20

/-- A detector supply cut (R48). -/
def cutTime : Time := seconds 5

/-- The confirmation window (R47). -/
def windowTime : Time := seconds 60

/-- The shortest and the longest counted pulse (R60). -/
def pulseLeast : Time := millis 80
def pulseMost : Time := millis 1000

/-- The interval that closes a digit and the one that closes a round (R61). -/
def digitInterval : Time := millis 1200
def roundInterval : Time := millis 3000

/-- A continuous ring (R63). -/
def ringTime : Time := seconds 8

/-- Disagreement of lock feedback and command (R122). -/
def feedbackTime : Time := seconds 3

/-- A leaf standing open with its hold dropped (R123). -/
def closingTime : Time := seconds 30

/-- Half of the 1 Hz rhythm of hats and lamps (R143, R188). -/
def halfSecond : Time := millis 500

/-- The built-in tone (R171). -/
def toneTime : Time := seconds 3

/-- An underrun that abandons its clip (R173). -/
def underrunTime : Time := seconds 2

/-- The page expiry (R174). -/
def pageTime : Time := seconds 600

/-- The error break (R9). -/
def breakTime : Time := 12

/-- Three further gaps of 11 bit times (R17). -/
def holdGapTime : Time := 33

/-- The values of the UNCONFIGURED station (R208). Its digest is computed where the image is taken (R207). The occupancy,
which R208 calls not known, the shares and the re-entry floor, for which it gives no value, are 0, 0 and no (DESIGN
CHOICE, log entry 45). -/
def unconfiguredValues : StationConfig where
  unconfigured := true
  stairCount := 4
  capacity := Vector.replicate 4 4095
  drain := Vector.replicate 4 1
  drainTick := 4
  reachAbove := 1
  reachBelow := 1
  refresh := 20
  ownFloor := none
  occupancy := 0
  shares := Vector.replicate 4 0
  reentryFloor := false
  points := Vector.replicate 32 ⟨.detector 0, false, false⟩
  outputs := Vector.replicate 24 .none
  codes := Vector.replicate 32 none
  speakers := 1
  banks := Vector.replicate 2 none
  gap := 8
  digest := 0

/-- What the configured values hold between a reset and step 2 of the start sequence (log entry 3). -/
def unreadValues : StationConfig := { unconfiguredValues with unconfigured := false }

end Sys2Proof.Machine
end

