-- ==== Sys2Proof/Machine/State.lean ====
section
/-! DEFINITION. The state of the station, the reasons a step can stop, and the state after a reset. -/

namespace Sys2Proof.Machine

/-- What could stop the machine with a fault. Nothing does: every command of the table has a next state in every
state, so the type has no constructor (log entry 10). -/
inductive Fault
deriving DecidableEq, Repr

/-- Why a command is turned away without a meaning. -/
inductive Refusal
  /-- Raised by an arm of `exec` whose command has no meaning yet; safe, as the machine stops. No arm does. -/
  | notModelled (mnemonic : String)
deriving DecidableEq, Repr

/-- The station: its clock, one record for each block of 00_scope.md section 2, and the commands that are waiting. -/
structure State where
  /-- Bit times that have passed since the model's run began (log entry 1). -/
  now : Time
  /-- The moment of the last power-on, pin reset or restart; seconds since start are counted from it (R182). -/
  startedAt : Time
  lif : Lif
  bdr : Bdr
  ptu : Ptu
  rgu : Rgu
  sau : Sau
  lfc : Lfc
  lfu : Lfu
  acu : Acu
  pbu : Pbu
  eva : Eva
  cpt : Cpt
  ssu : Ssu
  /-- Commands that are waiting, first in, first out: the model's own queue, which no block reads. -/
  pending : List Instr
deriving DecidableEq, Repr

/-- R21, R6, R19, section 1.2. -/
def Lif.reset : Lif where
  rx := .seeking
  lineIdle := false
  tx := .ready
  held := false
  txFault := false
  attemptOpen := false
  queue := []
  failures := 0
  testSequence := 0
  duplicateSeen := false
  holdFrom := none
  txFrom := 0
  breakFrom := 0

/-- R22, R27, R30, R37. -/
def Bdr.reset : Bdr where
  roster := Vector.replicate 63 none
  summary := Vector.replicate 2 none
  refreshNext := none
  rejectedSeen := Vector.replicate 63 false

/-- R59, column "Empty decoder". -/
def Decoder.empty : Decoder where
  state := .quiet
  closed := []
  count := 0
  lastPulseEnd := none
  pulseStart := none
  candidate := none
  continuous := none
  lastDecoded := none
  lastUnknown := none

/-- R41. -/
def PointRecord.reset : PointRecord where
  reading := .untaken
  lastGood := none
  isolated := false
  logical := .normal
  unconfirmed := 0
  armed := true
  windowExpiry := none
  decoder := .empty
  filterFrom := 0
  renew := false

/-- R41, R48. -/
def Ptu.reset : Ptu where
  points := Vector.replicate 32 .reset
  cuts := Vector.replicate 4 none

/-- R70: every record shows fire no. -/
def FloorMap.empty : FloorMap where
  general := false
  generalCauses := []
  generalReporting := []
  fires := []

/-- R65, R68, R70, R73, R83, R85. -/
def Rgu.reset : Rgu where
  own := []
  stored := Vector.replicate 63 none
  map := .empty
  phase := .normal
  mode := .none
  epoch := 0
  silence := false

/-- R98. That rule gives neither mode nor content a value before the first claim: DESIGN CHOICE (log entry 33). -/
def Claim.reset : Claim where
  state := .none
  mode := .forced
  content := { epoch := 0, floor := 0, forced := true, counts := [] }
  oldCopy := false

/-- R89, R92, R94, R98, R104. -/
def Sau.reset : Sau where
  status := Vector.replicate 4 .inService
  smokeOffer := Vector.replicate 4 none
  queues := Vector.replicate 4 []
  released := 0
  assigned := []
  claim := .reset
  drainNext := none

/-- R112, column "After power-on". -/
def LeafRecord.reset : LeafRecord where
  lock := .released
  hold := .dropped
  feedback := none
  feedbackFrom := none
  position := none
  closingFrom := none
  security := .none
  engaged := none

/-- R112, R125. -/
def Lfc.reset : Lfc where
  leaves := Vector.replicate 4 none
  unlockAll := false

/-- R129. -/
def CarRecord.reset : CarRecord where
  state := .normal
  output := .none
  timer := none
  available := true
  parked := false
  key := false

/-- R128. -/
def BankRecord.reset : BankRecord where
  fireLatch := false
  manual := false
  cause := .none
  landing := .none
  alarm := false
  hat := .off
  hatOn := false
  hatFrom := 0
  cars := Vector.replicate 4 .reset

/-- R127, R145. -/
def Lfu.reset : Lfu where
  banks := Vector.replicate 2 none

/-- R150. -/
def Acu.reset : Acu where
  table := Vector.replicate 256 .empty
  state := .unloaded
  invalid := 0
  trialFailures := []
  failure := none

/-- R172, R173: an empty buffer block. -/
def Block.empty : Block where
  state := .empty
  data := []

/-- R164, R174, R179, column "After reset". -/
def Pbu.reset : Pbu where
  program := .none
  oneShots := []
  playback := .silent
  changePending := false
  allClearDue := false
  waiting := none
  lastNamed := []
  gapExpiry := none
  queue := []
  inPlay := none
  toneFrom := 0
  soundFrom := 0
  sounded := 0
  underruns := 0
  underrunFrom := none
  faulted := []
  channel := .stopped
  blocks := Vector.replicate 2 .empty
  page := none
  inScope := false
  lastEnd := none
  ownRequest := .none
  circuits := Vector.replicate 4 none

/-- R190, R191. -/
def Eva.reset : Eva where
  entries := []
  mask := ⟨false, false, false⟩
  sounding := none
  buzzerOn := false
  buzzerFrom := 0
  lampOn := true
  lampFrom := 0

/-- R192, R195, R199, R204. -/
def Cpt.reset : Cpt where
  rx := .hunting
  inHand := none
  key2 := false
  key3 := false
  jumper4 := false
  delegation := Vector.replicate 16 none
  dropped := 0
  commands := 0
  errors := 0

/-- R206, R211, R212. -/
def Ssu.reset : Ssu where
  join := .starting
  stage := .held
  station := none
  supply := .mains
  mainsFailed := false
  batteryLow := false
  expiries := 0
  config := unreadValues

/-- The station right after power-on, before its supply has settled (R212): every block at the reset values of its
chapter, and the start sequence of R206 not yet begun. -/
def State.reset : State where
  now := 0
  startedAt := 0
  lif := .reset
  bdr := .reset
  ptu := .reset
  rgu := .reset
  sau := .reset
  lfc := .reset
  lfu := .reset
  acu := .reset
  pbu := .reset
  eva := .reset
  cpt := .reset
  ssu := .reset
  pending := []

end Sys2Proof.Machine
end

