-- ==== Sys2Proof/Machine/Ops.lean ====
section
/-! DEFINITION. The operations that every block shares: the clock, raising and clearing conditions (chapter 10), offering
and withdrawing bulletins (section 1.3), and answering the request in hand (R193). -/

namespace Sys2Proof.Machine

/-! ## The clock and the start sequence -/

/-- The station `dt` bit times later. -/
def State.after (s : State) (dt : Nat) : State := { s with now := s.now + dt }

/-- Whole seconds since the last power-on, pin reset or restart. -/
def State.secondsUp (s : State) : Nat := wholeSeconds (s.now - s.startedAt)

/-- The station is not held in reset (R206). -/
def State.live (s : State) : Bool := s.ssu.stage != .held

/-- The station has entered JOINING (R206). -/
def State.entered (s : State) : Bool := s.ssu.join != .starting

/-- A timer that runs to `t` has been reached. -/
def State.reached (s : State) (t : Time) : Bool := t ≤ s.now

/-- The timer, if it runs, has been reached. -/
def State.due (s : State) : Option Time → Bool
  | some t => s.reached t
  | none => false

/-- The own floor (R207): absent where it is not known. -/
def State.ownFloor (s : State) : Option Floor := s.ssu.config.ownFloor

/-- A stair of the configured stair count. -/
def State.hasStair (s : State) (st : Stair) : Bool := st.val < s.ssu.config.stairCount

/-! ## Sources and conditions (R181, section 10.4) -/

/-- Source numbers (R181). -/
def sourceNumber : Source → Nat
  | .point p => p.val
  | .leaf st => 32 + st.val
  | .car b c => 36 + 4 * b.val + c.val
  | .bank b => 44 + b.val
  | .station n => 45 + number n
  | .internal .lineTx => 109
  | .internal .lineRx => 110
  | .internal .config => 111
  | .internal .clipStore => 112
  | .internal .supply => 113
  | .internal .console => 114

/-- The event class of a condition (section 10.4). -/
def Condition.cls : Condition → EventClass
  | .alarm | .fireReported => .fire
  | .detectorUnstable | .isolated | .leafNotClosed | .reentryRefused | .lineRxDegraded => .supervisory
  | .openCircuit | .shortCircuit | .codeUnknown | .contributionFull | .lockNotFollowing | .carUnavailable
  | .carNotRecalled | .noSafeLanding | .stationLost | .configDiffer | .floorDuplicate | .duplicateStation | .lineTx
  | .checkTestFailed | .configBad | .phraseTableBad | .phraseFault | .clipFault | .circuitFault _ | .supply => .fault
  | .verifying | .securityOverride | .bulletinRejected | .checkTestPassed | .alertSilenced | .stairsUnlocked
  | .pageHeld | .buzzerMasked => .notice

/-- Condition codes (section 11.5). -/
def Condition.code : Condition → Nat
  | .alarm => 0 | .detectorUnstable => 1 | .isolated => 2 | .openCircuit => 3 | .shortCircuit => 4
  | .codeUnknown => 5 | .contributionFull => 6 | .verifying => 7 | .leafNotClosed => 8 | .reentryRefused => 9
  | .lockNotFollowing => 10 | .securityOverride => 11 | .carUnavailable => 12 | .carNotRecalled => 13
  | .noSafeLanding => 14 | .fireReported => 15 | .stationLost => 16 | .configDiffer => 17 | .floorDuplicate => 18
  | .duplicateStation => 19 | .bulletinRejected => 20 | .lineTx => 21 | .lineRxDegraded => 22
  | .checkTestFailed => 23 | .checkTestPassed => 24 | .configBad => 25 | .phraseTableBad => 26 | .phraseFault => 27
  | .clipFault => 28 | .circuitFault n => 29 + n.val | .supply => 33 | .alertSilenced => 34 | .stairsUnlocked => 35
  | .pageHeld => 36 | .buzzerMasked => 37

/-- Event class codes, highest first: the position of the class in R182. -/
def eventClassCode : EventClass → Nat
  | .fire => 0 | .supervisory => 1 | .fault => 2 | .notice => 3

/-- The event classes, highest first. -/
def eventClasses : List EventClass := [.fire, .supervisory, .fault, .notice]

/-- The highest class among conditions; `d` where there is none. -/
def highestClass (d : EventClass) (l : List Condition) : EventClass :=
  (eventClasses.find? fun k => l.any fun c => c.cls == k).getD d

/-! ## The event list (R182 to R184) -/

/-- The entry of a source, where it has one. -/
def Eva.entry (e : Eva) (src : Source) : Option EventEntry := e.entries.find? fun x => x.source == src

/-- A condition is active on a source. -/
def State.active (s : State) (src : Source) (c : Condition) : Bool :=
  match s.eva.entry src with
  | some e => e.active.contains c
  | none => false

/-- An entry put at its place in the order of source numbers, in place of the entry of its source. -/
def putEntry (e : EventEntry) : List EventEntry → List EventEntry
  | [] => [e]
  | x :: rest =>
    if x.source = e.source then e :: rest
    else if sourceNumber e.source < sourceNumber x.source then e :: x :: rest
    else x :: putEntry e rest

/-- The list without the entry of a source. -/
def dropEntry (src : Source) (l : List EventEntry) : List EventEntry :=
  l.filter fun x => x.source != src

/-- An entry that asks for attention (R188, R189). -/
def EventEntry.unacknowledged (e : EventEntry) : Bool := e.state != .activeAck

/-- The flag of the buzzer mask for a class; FIRE has none (R190). -/
def BuzzerMask.masks (m : BuzzerMask) : EventClass → Bool
  | .fire => false
  | .supervisory => m.supervisory
  | .fault => m.fault
  | .notice => m.notice

/-- The class that the buzzer sounds (R189). -/
def Eva.sounded (e : Eva) : Option EventClass :=
  eventClasses.find? fun k => !e.mask.masks k && e.entries.any fun x => x.cls == k && x.unacknowledged

/-- The class sounded is derived again; a change starts the new pattern, energized (R189). -/
def State.annunciate (s : State) : State :=
  if s.eva.sounded = s.eva.sounding then s
  else { s with eva := { s.eva with sounding := s.eva.sounded, buzzerOn := s.eva.sounded.isSome, buzzerFrom := s.now } }

/-- The event list changed, and the annunciator derived again (R188, R189). -/
def State.setEntries (s : State) (l : List EventEntry) : State :=
  ({ s with eva := { s.eva with entries := l } }).annunciate

/-- The first occurrence of an entry created now (R182); a free value beyond the range that R182 states. -/
def State.firstOccurrence (s : State) : Nat :=
  if s.secondsUp ≤ 4294967295 then s.secondsUp else (Config.firstOccurrenceBeyondRange s.secondsUp).toNat

/-- A fresh entry (R183, first line). -/
def newEntry (src : Source) (c : Condition) (first : Nat) : EventEntry where
  source := src
  active := [c]
  seen := [c]
  cls := c.cls
  state := .activeUnack
  first := first
  count := 1

/-- A condition added to an entry in which it is not active (R183). -/
def EventEntry.withCondition (e : EventEntry) (c : Condition) : EventEntry :=
  { e with
    active := e.active ++ [c]
    seen := if e.seen.contains c then e.seen else e.seen ++ [c]
    cls := highestClass c.cls (e.active ++ [c])
    state := .activeUnack
    count := min 255 (e.count + 1) }

/-- Raise a condition on a source (R183). -/
def raise (src : Source) (c : Condition) (s : State) : State :=
  match s.eva.entry src with
  | none => s.setEntries (putEntry (newEntry src c s.firstOccurrence) s.eva.entries)
  | some e => if e.active.contains c then s else s.setEntries (putEntry (e.withCondition c) s.eva.entries)

/-- What an entry becomes when a condition active in it clears; absent where it is removed (R184). -/
def EventEntry.withoutCondition (e : EventEntry) (c : Condition) : Option EventEntry :=
  match e.active.filter (fun x => x != c) with
  | [] => if e.state = .activeAck then none else some { e with active := [], state := .clearedUnack }
  | l => some { e with active := l, cls := highestClass e.cls l }

/-- Clear a condition on a source (R184). -/
def clear (src : Source) (c : Condition) (s : State) : State :=
  match s.eva.entry src with
  | none => s
  | some e =>
    if e.active.contains c then
      match e.withoutCondition c with
      | some e' => s.setEntries (putEntry e' s.eva.entries)
      | none => s.setEntries (dropEntry src s.eva.entries)
    else s

/-- A condition kept active exactly while `on` holds. -/
def keep (on : Bool) (src : Source) (c : Condition) (s : State) : State :=
  if on then raise src c s else clear src c s

/-- Raise a condition and clear it at once (R185). -/
def raiseAndClear (src : Source) (c : Condition) (s : State) : State :=
  clear src c (raise src c s)

/-! ## The transmit queue (R12 to R16) -/

/-- The first entry that fills a slot. -/
def Lif.inSlot (l : Lif) (slot : Slot) : Option TxEntry := l.queue.find? fun e => e.slot == slot

/-- How many entries fill a slot. -/
def Lif.filled (l : Lif) (slot : Slot) : Nat := (l.queue.filter fun e => e.slot == slot).length

/-- An entry stands ahead of another: more urgent, or as urgent and older (R12). -/
def TxEntry.ahead (a b : TxEntry) : Bool :=
  classCode a.cls < classCode b.cls || (classCode a.cls == classCode b.cls && a.age < b.age)

/-- The head of the queue (R12); entries of equal class and age stand in the order in which they joined. -/
def headEntry : List TxEntry → Option TxEntry
  | [] => none
  | e :: rest =>
    match headEntry rest with
    | some h => if h.ahead e then some h else some e
    | none => some e

/-- The entry that stands on the line, where there is one. -/
def Lif.onLine (l : Lif) : Option TxEntry := l.queue.find? fun e => e.state != .waiting

/-- The first entry that meets a test changed. -/
def changeFirst (p : TxEntry → Bool) (f : TxEntry → TxEntry) : List TxEntry → List TxEntry
  | [] => []
  | e :: rest => if p e then f e :: rest else e :: changeFirst p f rest

/-- The first entry that meets a test removed. -/
def removeFirst (p : TxEntry → Bool) : List TxEntry → List TxEntry
  | [] => []
  | e :: rest => if p e then rest else e :: removeFirst p rest

/-- A new entry (R13). -/
def newTxEntry (c : Content) (now : Time) : TxEntry where
  slot := c.slot
  content := c
  pending := none
  cls := c.slot.cls
  age := now
  losses := 0
  abandons := 0
  state := .waiting
  withdrawn := false

/-- A replacing offer, by the state of the entry (R14). -/
def TxEntry.replace (e : TxEntry) (c : Content) : TxEntry :=
  match e.state with
  | .waiting => { e with content := c, pending := none, losses := 0 }
  | .arbitrating | .sending => { e with pending := some c }

/-- How many entries a slot may hold before a further offer is refused; absent where it replaces (R13). -/
def Slot.limit : Slot → Option Nat
  | .command => some 2
  | .regimeReset => some 1
  | .test => some 1
  | _ => none

/-- The transmit queue changed. -/
def State.setQueue (s : State) (q : List TxEntry) : State := { s with lif := { s.lif with queue := q } }

/-- Offer a bulletin to the LIF (R13, R16); the flag says that the offer was taken. -/
def offer (c : Content) (s : State) : State × Bool :=
  if s.lif.tx = .off then (s, false)
  else match c.slot.limit with
    | some n =>
      if s.lif.filled c.slot < n then (s.setQueue (s.lif.queue ++ [newTxEntry c s.now]), true) else (s, false)
    | none =>
      match s.lif.inSlot c.slot with
      | none => (s.setQueue (s.lif.queue ++ [newTxEntry c s.now]), true)
      | some _ => (s.setQueue (changeFirst (fun e => e.slot == c.slot) (fun e => e.replace c) s.lif.queue), true)

/-- The LIF's answer to a withdrawal (R15). While the arbitration byte is being sent the answer is still open. -/
inductive Withdrawal
  | withdrawn | tooLate | open_
deriving DecidableEq, Repr

/-- Withdraw the entry of a slot (R15). -/
def withdraw (slot : Slot) (s : State) : State × Withdrawal :=
  match s.lif.inSlot slot with
  | none => (s, .withdrawn)
  | some e =>
    match e.state with
    | .waiting => (s.setQueue (removeFirst (fun x => x.slot == slot) s.lif.queue), .withdrawn)
    | .arbitrating =>
      (s.setQueue (changeFirst (fun x => x.slot == slot) (fun x => { x with pending := none, withdrawn := true }) s.lif.queue), .open_)
    | .sending =>
      (s.setQueue (changeFirst (fun x => x.slot == slot) (fun x => { x with pending := none, withdrawn := true }) s.lif.queue), .tooLate)

/-! ## Answering (R193) -/

/-- The answer to the request in hand is known: its frame is sent. -/
def answerNow (a : Answer) (data : List Byte) (s : State) : State :=
  match s.cpt.inHand with
  | some h => { s with cpt := { s.cpt with inHand := some { h with answer := some (answerFrame a data) } } }
  | none => s

/-- The presented level (R195). -/
def State.level (s : State) : Nat :=
  if s.cpt.jumper4 then 4 else if s.cpt.key3 then 3 else if s.cpt.key2 then 2 else 1

/-! ## Blocks changed -/

def State.setRgu (s : State) (f : Rgu → Rgu) : State := { s with rgu := f s.rgu }
def State.setSau (s : State) (f : Sau → Sau) : State := { s with sau := f s.sau }
def State.setPbu (s : State) (f : Pbu → Pbu) : State := { s with pbu := f s.pbu }
def State.setLif (s : State) (f : Lif → Lif) : State := { s with lif := f s.lif }
def State.setBdr (s : State) (f : Bdr → Bdr) : State := { s with bdr := f s.bdr }
def State.setCpt (s : State) (f : Cpt → Cpt) : State := { s with cpt := f s.cpt }
def State.setSsu (s : State) (f : Ssu → Ssu) : State := { s with ssu := f s.ssu }

/-- A point record changed. -/
def State.setPoint (s : State) (p : Point) (f : PointRecord → PointRecord) : State :=
  { s with ptu := { s.ptu with points := upd s.ptu.points p f } }

end Sys2Proof.Machine
end

