-- ==== Sys2Proof/Machine/Decoder.lean ====
section
/-! DEFINITION. The coded decoder of a LEGACY_CODED point (section 3.8), as far as it is a matter of the decoder record
alone. What a decoded code does stands in Points.lean. -/

namespace Sys2Proof.Machine

/-- The open digit closes where it holds a pulse (R61). -/
def Decoder.closeDigit (d : Decoder) : Decoder :=
  if d.count = 0 then d else { d with closed := d.closed ++ [d.count], count := 0 }

/-- The round in progress is invalid (R60 to R63); its digits, its count and its pulse start are empty in SPOILED
(DESIGN CHOICE, log entry 43). -/
def Decoder.spoil (d : Decoder) : Decoder :=
  { d with state := .spoiled, closed := [], count := 0, pulseStart := none }

/-- The interval since the last pulse end closes the open digit (R61). -/
def Decoder.digitDue (d : Decoder) (now : Time) : Bool :=
  match d.state, d.lastPulseEnd with
  | .gap, some t => d.count != 0 && t + digitInterval ≤ now
  | _, _ => false

/-- The interval since the last pulse end closes the round (R61). -/
def Decoder.roundDue (d : Decoder) (now : Time) : Bool :=
  match d.state, d.lastPulseEnd, d.continuous with
  | .gap, some t, _ => t + roundInterval < now
  | .spoiled, some t, none => t + roundInterval < now
  | _, _, _ => false

/-- The continuous timer has passed 8 s (R63). -/
def Decoder.ringDue (d : Decoder) (now : Time) : Bool :=
  match d.continuous with
  | some t => t + ringTime < now
  | none => false

/-- The decoder after a round has closed (R61, R62); the round's fields are empty again, the last pulse end among them
(DESIGN CHOICE, log entry 43). -/
def Decoder.quieten (d : Decoder) : Decoder :=
  { d with state := .quiet, closed := [], count := 0, pulseStart := none, lastPulseEnd := none }

/-- The digits of the round that closes: none where it is invalid (R62). -/
def Decoder.roundDigits (d : Decoder) : Option (List Nat) :=
  match d.state with
  | .spoiled => none
  | .quiet | .pulse | .gap => some d.closeDigit.closed

/-- The round closed and compared with the candidate (R62): the decoder, and the code that it decodes. -/
def Decoder.closeRound (d : Decoder) : Decoder × Option (List Nat) :=
  match d.roundDigits with
  | none => ({ d.quieten with candidate := none }, none)
  | some digits =>
    if d.candidate = some digits then ({ d.quieten with lastDecoded := some digits }, some digits)
    else ({ d.quieten with candidate := some digits }, none)

/-- A digit end that the interval has reached takes effect. -/
def Decoder.catchUp (d : Decoder) (now : Time) : Decoder := if d.digitDue now then d.closeDigit else d

/-- A change to ACTIVE, once the round ends that fell before it have taken effect (R60). -/
def Decoder.pulseBegins (d : Decoder) (now : Time) : Decoder :=
  match d.state with
  | .quiet | .gap => { d.catchUp now with state := .pulse, pulseStart := some now, continuous := some now }
  | .spoiled | .pulse => { d with continuous := some now }

/-- A counted pulse (R60, R61); the decoder then holds no pulse start, whether it enters GAP or SPOILED (DESIGN CHOICE,
log entry 43). -/
def Decoder.countPulse (d : Decoder) (now : Time) : Decoder :=
  if d.count = 9 ∨ (d.count = 0 ∧ d.closed.length = 3) then { d.spoil with lastPulseEnd := some now }
  else { d with state := .gap, count := d.count + 1, pulseStart := none, lastPulseEnd := some now }

/-- A change to NORMAL (R60); a pulse that is too short leaves no pulse start behind in QUIET or GAP (DESIGN CHOICE, log
entry 43). -/
def Decoder.pulseEnds (d : Decoder) (now : Time) : Decoder :=
  let d := { d with continuous := none }
  match d.state, d.pulseStart with
  | .pulse, some t =>
    if now - t < pulseLeast then
      { d with state := if d.lastPulseEnd.isSome then .gap else .quiet, pulseStart := none }
    else if now - t ≤ pulseMost then d.countPulse now
    else { d.spoil with lastPulseEnd := some now }
  | .spoiled, _ => { d with lastPulseEnd := some now }
  | _, _ => d

/-- An OPEN or SHORT abandons the round (R64); the codes shown at the console stay. -/
def Decoder.abandon (d : Decoder) : Decoder :=
  { Decoder.empty with lastDecoded := d.lastDecoded, lastUnknown := d.lastUnknown }

/-- The first good reading after a fault, a restore or the start (R64). -/
def Decoder.begin (d : Decoder) (active : Bool) (now : Time) : Decoder :=
  if active then { d.abandon with state := .spoiled, continuous := some now } else d.abandon

end Sys2Proof.Machine
end

