-- ==== Sys2Proof/Machine/Leaf.lean ====
section
/-! DEFINITION. The Leaf Controller (chapter 6): commands, supervision, unlock-all and security overrides. -/

namespace Sys2Proof.Machine

/-- The lock command of the leaf of a stair (R114), line by line. -/
def State.lockCommand (s : State) (st : Stair) (security : Security) : LockCommand :=
  if s.ssu.join = .joining then .released
  else if s.rgu.phase ≠ .normal then .released
  else if s.sau.status[st] = .smokeLogged then .released
  else if s.lfc.unlockAll then .released
  else match security with
    | .lock => .locked
    | .free => .released
    | .none => if s.ssu.config.reentryFloor then .released else .locked

/-- The hold command of the leaf of a stair (R115), line by line. -/
def State.holdCommand (s : State) (st : Stair) : HoldCommand :=
  if s.ssu.join = .joining then .dropped
  else if s.rgu.phase ≠ .normal then .dropped
  else if s.sau.status[st] = .smokeLogged then .dropped
  else if s.ssu.supply ≠ .mains then .dropped
  else .held

/-- The lock feedback agrees with the command: engaged and LOCKED, or free and RELEASED (R122). -/
def agrees (engaged : Bool) (lock : LockCommand) : Bool := engaged == (lock == .locked)

/-- The feedback field and timer after a change of command or feedback value (R113, R122). -/
def LeafRecord.superviseLock (now : Time) (l : LeafRecord) : LeafRecord :=
  match l.engaged with
  | none => { l with feedback := none, feedbackFrom := none }
  | some v =>
    match l.feedback, agrees v l.lock with
    | none, true => { l with feedback := some .following, feedbackFrom := none }
    | none, false => { l with feedback := some .following, feedbackFrom := some now }
    | some _, true => { l with feedback := some .following, feedbackFrom := none }
    | some .following, false => { l with feedbackFrom := l.feedbackFrom.or (some now) }
    | some .notFollowing, false => l

/-- The leaf stands open while its hold is dropped (R123). -/
def LeafRecord.unheldOpen (l : LeafRecord) : Bool := l.position == some .opened && l.hold == .dropped

/-- The closing timer after a change of position or hold command: it starts where `before` was not open with the hold
dropped, runs on where it was, and stops where the leaf no longer is (R123). A leaf left open through a restart is timed
from the reading that brings its position into view, and not from the start of JOINING (DESIGN CHOICE, log entry 47). -/
def LeafRecord.superviseClosing (now : Time) (l before : LeafRecord) : LeafRecord :=
  if l.unheldOpen then
    if before.unheldOpen then { l with closingFrom := before.closingFrom } else { l with closingFrom := some now }
  else { l with closingFrom := none }

/-- The leaf record of a stair put in place. -/
def State.setLeaf (s : State) (st : Stair) (l : LeafRecord) : State :=
  { s with lfc := { s.lfc with leaves := s.lfc.leaves.set st (some l) } }

/-- A leaf record changed, its supervision taken anew, and the conditions that end cleared (R113, R122, R123). Where one
computation ends both, LOCK_NOT_FOLLOWING clears before LEAF_NOT_CLOSED (DESIGN CHOICE, log entry 40). -/
def changeLeaf (st : Stair) (f : LeafRecord → LeafRecord) (s : State) : State :=
  match s.lfc.leaves[st] with
  | none => s
  | some before =>
    let l := ((f before).superviseLock s.now).superviseClosing s.now before
    let s := s.setLeaf st l
    let s := if l.feedback = some .notFollowing then s else clear (.leaf st) .lockNotFollowing s
    if l.unheldOpen then s else clear (.leaf st) .leafNotClosed s

/-- Every leaf's commands computed again (R116). -/
def computeLeaves (s : State) : State :=
  (List.finRange 4).foldl (fun s st =>
    changeLeaf st (fun l => { l with lock := s.lockCommand st l.security, hold := s.holdCommand st }) s) s

/-- The security override of a leaf set, and SECURITY_OVERRIDE kept with it (R119, R121). -/
def setSecurity (st : Stair) (v : Security) (s : State) : State :=
  match s.lfc.leaves[st] with
  | none => s
  | some l =>
    keep (v != .none) (.leaf st) .securityOverride (s.setLeaf st { l with security := v })

/-- The security overrides whose state has ended are cleared: every one while the own phase is not NORMAL, and that
of a leaf whose stair is SMOKE_LOGGED (R121). -/
def examineSecurity (s : State) : State :=
  (List.finRange 4).foldl (fun s st =>
    if s.rgu.phase ≠ .normal ∨ s.sau.status[st] = .smokeLogged then setSecurity st .none s else s) s

/-- What the LFC does at a change of phase, stair status, supply or join state: the overrides, then the commands
(R116, R121). -/
def leavesFollow (s : State) : State := computeLeaves (examineSecurity s)

/-- An UNLOCK_STAIRS command heard (R118). -/
def unlockHeard (s : State) : State :=
  if s.lfc.unlockAll then s
  else computeLeaves (raise (.internal .console) .stairsUnlocked { s with lfc := { s.lfc with unlockAll := true } })

/-- The LFC at step 10 of an adoption: the flag clears first (R116, R118). -/
def leavesAtEpoch (s : State) : State :=
  leavesFollow (clear (.internal .console) .stairsUnlocked { s with lfc := { s.lfc with unlockAll := false } })

/-- The new security override that a request asks for (R119). -/
def securityAsked (lock reentry : Bool) : Security :=
  match lock, reentry with
  | true, true => .lock
  | true, false => .none
  | false, false => .free
  | false, true => .none

/-- The state check of a security request (R120): absent where it passes, else whether REENTRY_REFUSED is raised. -/
def State.securityRefused (s : State) (st : Stair) : Option Bool :=
  match s.lfc.leaves[st] with
  | none => some false
  | some _ =>
    if s.ssu.join = .joining ∨ s.rgu.phase ≠ .normal ∨ s.sau.status[st] = .smokeLogged ∨ s.lfc.unlockAll then some true
    else none

/-- A security request at the LFC (R119, R120): the answer, and the station after it. -/
def securityRequest (lock : Bool) (st : Stair) (s : State) : State × Answer :=
  match s.securityRefused st with
  | some true => (raiseAndClear (.leaf st) .reentryRefused s, .state)
  | some false => (s, .state)
  | none => (computeLeaves (setSecurity st (securityAsked lock s.ssu.config.reentryFloor) s), .accepted)

/-- Three seconds of disagreement have elapsed (R122). -/
def feedbackTimeout (st : Stair) (s : State) : State :=
  match s.lfc.leaves[st] with
  | none => s
  | some l =>
    if s.due (l.feedbackFrom.map (· + feedbackTime)) then
      raise (.leaf st) .lockNotFollowing
        (s.setLeaf st { l with feedback := some .notFollowing, feedbackFrom := none })
    else s

/-- Thirty seconds open with the hold dropped have elapsed (R123). -/
def closingTimeout (st : Stair) (s : State) : State :=
  match s.lfc.leaves[st] with
  | none => s
  | some l =>
    if s.due (l.closingFrom.map (· + closingTime)) then
      raise (.leaf st) .leafNotClosed (s.setLeaf st { l with closingFrom := none })
    else s

end Sys2Proof.Machine
end

