-- ==== Sys2Proof/Machine/Lift.lean ====
section
/-! DEFINITION. The Lift Unit (chapter 7): recall demand and cause, landing selection, the cars, the hat and LIFT. -/

namespace Sys2Proof.Machine

/-! ## What the Lift Unit reads -/

/-- Fire is in view (R70). -/
def FloorMap.fireInView (m : FloorMap) : Bool := m.general || !m.fires.isEmpty

/-- The lobby fire of a floor (R70). -/
def FloorMap.lobbyFire (m : FloorMap) (f : Floor) : Bool := m.fires.any fun r => r.floor == f && r.lobby

/-- A car of a bank's car count (R129). -/
def hasCar (c : BankConfig) (k : Car) : Bool := k.val < c.carCount

/-- The bank is under recall (R132). -/
def BankRecord.underRecall (r : BankRecord) : Bool := r.cause != .none

/-- A bank record changed. -/
def State.setBank (s : State) (b : Bank) (f : BankRecord → BankRecord) : State :=
  { s with lfu := { s.lfu with banks := upd s.lfu.banks b (Option.map f) } }

/-- A car record changed. -/
def State.setCar (s : State) (b : Bank) (c : Car) (f : CarRecord → CarRecord) : State :=
  s.setBank b fun r => { r with cars := upd r.cars c f }

/-- What is done with a bank record and its configuration, where the station has the bank. -/
def State.withBank (s : State) (b : Bank) (f : BankConfig → BankRecord → State) : State :=
  match s.ssu.config.banks[b], s.lfu.banks[b] with
  | some cfg, some r => f cfg r
  | _, _ => s

/-- Every car of a bank's car count in turn. -/
def eachCar (cfg : BankConfig) (f : Car → State → State) (s : State) : State :=
  (List.finRange 4).foldl (fun s c => if hasCar cfg c then f c s else s) s

/-! ## The cars (section 7.4) -/

/-- The recall output of the selected landing (R136). -/
def landingOutput : Landing → RecallOutput
  | .alternate => .alt
  | _ => .main

/-- A car enters NORMAL (R135). -/
def carNormal (b : Bank) (c : Car) (s : State) : State :=
  clear (.car b c) .carNotRecalled (clear (.car b c) .carUnavailable
    (s.setCar b c fun r => { r with state := .normal, output := .none, timer := none }))

/-- A car enters RECALLING, and its inputs are examined as they stand; the event list sees only the state in which the
examination ends (R136 to R138, R140). -/
def carRecalling (b : Bank) (c : Car) (s : State) : State :=
  s.withBank b fun _ r =>
    let k := r.cars[c]
    let out := landingOutput r.landing
    if !k.available then
      raise (.car b c) .carUnavailable (s.setCar b c fun r => { r with state := .withdrawn, output := out, timer := none })
    else if k.parked then
      clear (.car b c) .carNotRecalled (clear (.car b c) .carUnavailable
        (if k.key then s.setCar b c fun r => { r with state := .firefighter, output := .none, timer := none }
         else s.setCar b c fun r => { r with state := .parked, output := out, timer := none }))
    else
      clear (.car b c) .carUnavailable
        (s.setCar b c fun r => { r with state := .recalling, output := out, timer := some s.now })

/-- The recall start, as each state takes it (R135). -/
def carRecallStart (b : Bank) (c : Car) (s : State) : State :=
  s.withBank b fun _ r =>
    match r.cars[c].state with
    | .normal => carRecalling b c s
    | .recalling | .parked | .firefighter | .withdrawn => s

/-- The recall end, as each state takes it (R135). -/
def carRecallEnd (b : Bank) (c : Car) (s : State) : State :=
  s.withBank b fun _ r =>
    match r.cars[c].state with
    | .recalling | .parked | .withdrawn => carNormal b c s
    | .normal | .firefighter => s

/-- A car in RECALLING takes the output of the landing now selected, and its timer restarts (R134, R142). -/
def carRedirect (b : Bank) (c : Car) (s : State) : State :=
  s.withBank b fun _ r =>
    match r.cars[c].state with
    | .recalling => s.setCar b c fun k => { k with output := landingOutput r.landing, timer := some s.now }
    | .normal | .parked | .firefighter | .withdrawn => s

/-- A car parks: PARKED, or FIREFIGHTER where its key is on (R137, R140). -/
def carParks (b : Bank) (c : Car) (s : State) : State :=
  s.withBank b fun _ r =>
    clear (.car b c) .carNotRecalled
      (if r.cars[c].key then s.setCar b c fun k => { k with state := .firefighter, output := .none, timer := none }
       else s.setCar b c fun k => { k with state := .parked, timer := none })

/-- A change of the available input (R135, R138). -/
def carAvailable (b : Bank) (c : Car) (v : Bool) (s : State) : State :=
  let s := s.setCar b c fun k => { k with available := v }
  s.withBank b fun _ r =>
    match r.cars[c].state, v with
    | .recalling, false =>
      raise (.car b c) .carUnavailable (s.setCar b c fun k => { k with state := .withdrawn, timer := none })
    | .withdrawn, true => carRecalling b c s
    | _, _ => s

/-- A change of the parked input (R135, R137). -/
def carParked (b : Bank) (c : Car) (v : Bool) (s : State) : State :=
  let s := s.setCar b c fun k => { k with parked := v }
  s.withBank b fun _ r =>
    match r.cars[c].state, v with
    | .recalling, true => carParks b c s
    | .parked, false => carRecalling b c s
    | _, _ => s

/-- A change of the key input (R135, R140). -/
def carKey (b : Bank) (c : Car) (v : Bool) (s : State) : State :=
  let s := s.setCar b c fun k => { k with key := v }
  s.withBank b fun _ r =>
    match r.cars[c].state, v with
    | .parked, true => s.setCar b c fun k => { k with state := .firefighter, output := .none, timer := none }
    | .firefighter, false => if r.underRecall then carRecalling b c s else carNormal b c s
    | _, _ => s

/-- The recall timer of a car reaches the bank's limit (R139). -/
def recallLimit (b : Bank) (c : Car) (s : State) : State :=
  s.withBank b fun cfg r =>
    if hasCar cfg c ∧ s.due (r.cars[c].timer.map (· + seconds cfg.limit)) then
      raise (.car b c) .carNotRecalled (s.setCar b c fun k => { k with timer := none })
    else s

/-! ## The hat (R143) -/

/-- The value of the hat. -/
def hatOf (cause : RecallCause) (alarm : Bool) : Hat :=
  match cause, alarm with
  | .none, _ => .off
  | .fire, false | .manual, false => .steady
  | .fire, true | .manual, true => .flashing

/-- The hat derived again; on entering FLASHING its outputs are energized and the rhythm runs from now. -/
def deriveHat (b : Bank) (s : State) : State :=
  s.setBank b fun r =>
    let h := hatOf r.cause r.alarm
    if h = r.hat then r else { r with hat := h, hatOn := h != .off, hatFrom := s.now }

/-- Half a second of a FLASHING hat has run. -/
def hatToggle (b : Bank) (s : State) : State :=
  s.withBank b fun _ r =>
    if r.hat = .flashing ∧ s.reached (r.hatFrom + halfSecond) then
      s.setBank b fun r => { r with hatOn := !r.hatOn, hatFrom := r.hatFrom + halfSecond }
    else s

/-- An alarm report of the Point Unit (R128, R143). -/
def alarmReport (b : Bank) (v : Bool) (s : State) : State :=
  deriveHat b (s.setBank b fun r => { r with alarm := v })

/-! ## Landing selection (section 7.3) -/

/-- The landing selected at a recall start (R133). -/
def State.selectLanding (s : State) (cfg : BankConfig) : Landing :=
  if !s.rgu.map.lobbyFire cfg.designated then .designated
  else if !s.rgu.map.lobbyFire cfg.alternate then .alternate
  else .designated

/-- NO_SAFE_LANDING examined (R133). -/
def examineLanding (b : Bank) (s : State) : State :=
  s.withBank b fun cfg r =>
    keep (r.underRecall && r.landing == .designated && s.rgu.map.lobbyFire cfg.designated && s.rgu.map.lobbyFire cfg.alternate)
      (.bank b) .noSafeLanding s

/-- A lobby fire change passed on by the Regime Unit, at one bank (R133, R134). -/
def lobbyChange (b : Bank) (s : State) : State :=
  s.withBank b fun cfg r =>
    if r.underRecall ∧ r.landing = .designated ∧ s.rgu.map.lobbyFire cfg.designated ∧ !s.rgu.map.lobbyFire cfg.alternate then
      let s := s.setBank b fun r => { r with landing := .alternate }
      examineLanding b (deriveHat b (eachCar cfg (carRedirect b) s))
    else examineLanding b s

/-! ## Cause (R130 to R132) -/

/-- The recall cause that the demands give (R132). -/
def BankRecord.derivedCause (r : BankRecord) : RecallCause :=
  if r.fireLatch then .fire else if r.manual then .manual else .none

/-- A recall start (R132, R133). -/
def recallStart (b : Bank) (s : State) : State :=
  s.withBank b fun cfg _ =>
    examineLanding b (eachCar cfg (carRecallStart b) (s.setBank b fun r => { r with landing := s.selectLanding cfg }))

/-- A recall end (R132). -/
def recallEnd (b : Bank) (s : State) : State :=
  s.withBank b fun cfg _ =>
    eachCar cfg (carRecallEnd b) (clear (.bank b) .noSafeLanding (s.setBank b fun r => { r with landing := .none }))

/-- The cause derived again after a change of the latch or the flag, and the change acted on (R132). -/
def deriveCause (b : Bank) (s : State) : State :=
  s.withBank b fun _ r =>
    let cause := r.derivedCause
    if cause = r.cause then s
    else
      let s := s.setBank b fun r => { r with cause := cause }
      let s := match r.cause, cause with
        | .none, _ => recallStart b s
        | _, .none => recallEnd b s
        | _, _ => s
      deriveHat b s

/-- Both banks in turn, bank 1 first. -/
def eachBank (f : Bank → State → State) (s : State) : State :=
  (List.finRange 2).foldl (fun s b => f b s) s

/-- Fire in view changes from no to yes (R130). -/
def liftsFire (s : State) : State :=
  eachBank (fun b s => deriveCause b (s.setBank b fun r => { r with fireLatch := true })) s

/-- MANUAL_RECALL or CANCEL_RECALL heard (R131). -/
def manualHeard (b : Bank) (v : Bool) (s : State) : State :=
  deriveCause b (s.setBank b fun r => { r with manual := v })

/-- The fire latches clear at step 10 of an adoption (R142). -/
def clearLatches (s : State) : State :=
  eachBank (fun b s => s.setBank b fun r => { r with fireLatch := false }) s

/-- One bank at the end of the handling of a bulletin that caused an adoption (R142). -/
def bankEpochEnd (b : Bank) (s : State) : State :=
  s.withBank b fun cfg r =>
    let s := s.setBank b fun r => { r with fireLatch := s.rgu.map.fireInView }
    if r.cause ≠ .none ∧ (s.rgu.map.fireInView ∨ r.manual) then
      let cause := if s.rgu.map.fireInView then RecallCause.fire else RecallCause.manual
      let landing := s.selectLanding cfg
      let s := s.setBank b fun r => { r with cause := cause, landing := landing }
      let s := if landing = r.landing then s else eachCar cfg (carRedirect b) s
      deriveHat b (examineLanding b s)
    else deriveCause b s

/-- The Lift Unit at the end of that handling (R142). -/
def liftsEpochEnd (s : State) : State := eachBank bankEpochEnd s

/-! ## LIFT bulletins (R144) -/

/-- The states of the cars of a bank. -/
def BankRecord.carStates (r : BankRecord) (cfg : BankConfig) : List CarState :=
  ((List.finRange 4).filter (hasCar cfg)).map fun c => r.cars[c].state

/-- The content of the LIFT of a bank, composed now. -/
def liftReport (b : Bank) (cfg : BankConfig) (r : BankRecord) : LiftReport where
  bank := b
  landing := r.landing
  cause := r.cause
  cars := r.carStates cfg

/-- The LIFT of a bank, where the station has the bank. -/
def State.lift? (s : State) (b : Bank) : Option LiftReport :=
  match s.ssu.config.banks[b], s.lfu.banks[b] with
  | some cfg, some r => some (liftReport b cfg r)
  | _, _ => none

/-- The LIFT of a bank offered. -/
def offerLift (b : Bank) (s : State) : State :=
  match s.lift? b with
  | some l => (offer (.lift l) s).1
  | none => s

/-- The LIFT of each bank that differs from what it was before the event (R144). Where one event changes both banks, bank 1
is offered first (DESIGN CHOICE, log entry 46): R144 gives that order for the entry to JOINING alone. -/
def offerChangedLifts (before s : State) : State :=
  eachBank (fun b s => if before.lift? b = s.lift? b then s else offerLift b s) s

end Sys2Proof.Machine
end

