-- ==== Sys2Proof/Machine/Composer.lean ====
section
/-! DEFINITION. The Announcement Composer (chapter 8): the load and trial of the phrase table, the walk, and
composition requests. -/

namespace Sys2Proof.Machine

/-! ## The walk (section 8.3) -/

/-- What a walk reads: the table, the own floor, and the stairs that a STAIR_SLOT names. -/
structure WalkView where
  table : Vector Phrase 256
  floor : Option Floor
  stairs : List Stair

/-- What a walk gathers (R152); the current level is kept by `walk` itself. -/
structure Walk where
  clips : List Nat
  named : List Stair
  rotors : List Ref
deriving DecidableEq, Repr

/-- A walk that has gathered nothing. -/
def Walk.start : Walk := ⟨[], [], []⟩

/-- The most clips that a walk gathers and the speaker queue holds (R152, R159). -/
def clipLimit : Nat := 32

/-- The highest clip number (R146). -/
def clipMost : Nat := 1023

/-- A clip appended, or the cause of failure (R157). -/
def Walk.append (w : Walk) (clip : Nat) : Except WalkCause Walk :=
  if w.clips.length < clipLimit then .ok { w with clips := w.clips ++ [clip] } else .error .tooLong

/-- The clips of a STAIR_SLOT, one for each stair in turn (R156). -/
def Walk.stairClips (base : Nat) : List Stair → Walk → Except WalkCause Walk
  | [], w => .ok w
  | st :: rest, w =>
    if base + number st ≤ clipMost then
      match w.append (base + number st) with
      | .ok w => Walk.stairClips base rest { w with named := if w.named.contains st then w.named else w.named ++ [st] }
      | .error c => .error c
    else .error .clipRange

/-- References followed in list order, each to its end (R153). -/
def followAll (f : Ref → Walk → Except WalkFailure Walk) : List Ref → Walk → Except WalkFailure Walk
  | [], w => .ok w
  | r :: rest, w =>
    match f r w with
    | .ok w => followAll f rest w
    | .error e => .error e

/-- A rotor put on the visited rotors (R154). -/
def Walk.visit (w : Walk) (r : Ref) : Walk :=
  if w.rotors.contains r then w else { w with rotors := w.rotors ++ [r] }

/-- An entry taken as its kind gives (R153 to R156); `follow` walks a reference from it, and `failed` puts the
entry's number and level to a cause. -/
def takeEntry (v : WalkView) (e : Ref) (follow : Ref → Walk → Except WalkFailure Walk)
    (failed : WalkCause → WalkFailure) (w : Walk) : Except WalkFailure Walk :=
  match v.table[e] with
  | .empty => .error (failed .emptyEntry)
  | .clip n => (w.append n).mapError failed
  | .script refs => followAll follow refs w
  | .link r => follow r w
  | .rotor refs position =>
    match refs[position]? with
    | some r => follow r (w.visit e)
    | none => .error (failed .emptyEntry)
  | .floorSlot base =>
    match v.floor with
    | none => .error (failed .noFloor)
    | some f => if base + f.val ≤ clipMost then (w.append (base + f.val)).mapError failed else .error (failed .clipRange)
  | .stairSlot base =>
    if v.stairs.isEmpty then follow 6 w else (Walk.stairClips base v.stairs w).mapError failed

/-- The walk from an entry below which `deeper` further levels may be reached: the entry stands at level `6 - deeper`,
and a reference from level 6 fails with DEPTH (R152, R157). -/
def walk (v : WalkView) : Nat → Ref → Walk → Except WalkFailure Walk
  | 0, e, w => takeEntry v e (fun _ _ => .error ⟨.depth, e, 6⟩) (fun c => ⟨c, e, 6⟩) w
  | deeper + 1, e, w => takeEntry v e (walk v deeper) (fun c => ⟨c, e, 5 - deeper⟩) w

/-- The role entries (R151). -/
def roleEntry : Role → Ref
  | .evacuate => 1 | .alert => 2 | .allClear => 3 | .test => 4 | .stairChanged => 5 | .noStair => 6

/-- The role entries in ascending order. -/
def allRoles : List Role := [.evacuate, .alert, .allClear, .test, .stairChanged, .noStair]

/-- A resolution: the roles of a request walked in the order named, each at level 1 (R152). -/
def resolve (v : WalkView) (roles : List Role) : Except WalkFailure Walk :=
  followAll (walk v 5) (roles.map roleEntry) .start

/-! ## The load (section 8.1) -/

/-- The test of a record (R148): the phrase it gives, or none where it fails. -/
def readPhrase : RawPhrase → Option Phrase
  | .clip n => if n ≤ clipMost then some (.clip n) else none
  | .script refs => if 1 ≤ refs.length ∧ refs.length ≤ 8 then some (.script refs) else none
  | .link r => some (.link r)
  | .rotor refs position =>
    if 2 ≤ refs.length ∧ refs.length ≤ 4 ∧ position < refs.length then some (.rotor refs position) else none
  | .floorSlot base => if base ≤ clipMost then some (.floorSlot base) else none
  | .stairSlot base => if base ≤ clipMost then some (.stairSlot base) else none
  | .empty => some .empty
  | .unknown => none

/-- The record of an entry in the image. An image without one gives a record that fails (log entry 5). -/
def imageRecord (im : PhraseImage) (e : Ref) : Option Phrase :=
  match im.records[e.val]? with
  | some r => readPhrase r
  | none => none

/-- The table taken from an image whose check agrees (R147, R148). -/
def imageTable (im : PhraseImage) : Vector Phrase 256 :=
  Vector.ofFn fun e => (imageRecord im e).getD .empty

/-- The invalid-entry count of an image (R148). -/
def imageInvalid (im : PhraseImage) : Nat :=
  ((List.finRange 256).filter fun e => (imageRecord im e).isNone).length

/-- What the trial of R149 reads. -/
def trialView (table : Vector Phrase 256) (cfg : StationConfig) : WalkView where
  table := table
  floor := some (cfg.ownFloor.getD 0)
  stairs := (List.finRange 4).filter fun st => st.val < cfg.stairCount

/-- A resolution succeeds. -/
def resolves (v : WalkView) (roles : List Role) : Bool :=
  match resolve v roles with
  | .ok _ => true
  | .error _ => false

/-- The role trial (R149): the roles whose trial fails, in ascending order. -/
def trialFailures (v : WalkView) : List Role := allRoles.filter fun r => !resolves v [r]

/-- The Announcement Composer after a load (R147 to R149). -/
def loadTable (im : PhraseImage) (cfg : StationConfig) (acu : Acu) : Acu :=
  if im.checkAgrees then
    let failures := trialFailures (trialView (imageTable im) cfg)
    { acu with
      table := imageTable im
      invalid := imageInvalid im
      trialFailures := failures
      state := if imageInvalid im = 0 ∧ failures = [] then .good else .degraded }
  else { acu with table := Vector.replicate 256 .empty, state := .bad }

/-! ## Requests (sections 8.2, 8.4 and 8.5) -/

/-- What a request reads (R155, R156). -/
def State.walkView (s : State) : WalkView where
  table := s.acu.table
  floor := s.ownFloor
  stairs := s.sau.assigned.filter fun st => s.sau.status[st] == .inService

/-- The clips in the speaker queue. -/
def Pbu.queued (p : Pbu) : Nat := (p.queue.map fun a => a.clips.length).sum

/-- The free room of the speaker queue (R159). -/
def Pbu.room (p : Pbu) : Nat := clipLimit - p.queued

/-- An announcement put at the tail of the speaker queue; an empty one leaves it at once (R159, R171). -/
def Pbu.takeIn (p : Pbu) (a : Announcement) : Pbu :=
  if a.clips.isEmpty then p else { p with queue := p.queue ++ [a] }

/-- A rotor moved to its next position (R160). -/
def Phrase.advance : Phrase → Phrase
  | .rotor refs position => .rotor refs (if position + 1 < refs.length then position + 1 else 0)
  | p => p

/-- The visited rotors advanced (R160). -/
def advanceRotors (rotors : List Ref) (table : Vector Phrase 256) : Vector Phrase 256 :=
  rotors.foldl (fun t r => upd t r Phrase.advance) table

/-- The answer of the Composer (R161). The cause of ADMITTED_TONE is absent at an UNCONFIGURED station (R162). -/
inductive Composed
  | admitted (clips : Nat) (named : List Stair)
  | admittedTone (cause : Option WalkCause)
  | notAdmitted (clips : Nat) (named : List Stair)
deriving DecidableEq, Repr

/-- The fallback announcement offered to the speaker queue (R158, R159). -/
def offerTone (roles : List Role) (cause : Option WalkCause) (s : State) : State × Composed :=
  if 1 ≤ s.pbu.room then (s.setPbu fun p => p.takeIn ⟨roles, [.tone]⟩, .admittedTone cause)
  else (s, .notAdmitted 1 [])

/-- The record and the condition of a failed walk (R158). -/
def recordFailure (roles : List Role) (f : WalkFailure) (s : State) : State :=
  raise (.internal .clipStore) .phraseFault
    { s with acu := { s.acu with failure := some { roles := roles, failure := f, seconds := s.secondsUp } } }

/-- An UNCONFIGURED station answers a request that names role 1, 2 or 5 without a walk (R162). -/
def State.answersUnwalked (s : State) (roles : List Role) : Bool :=
  s.ssu.config.unconfigured && roles.any fun r => r == .evacuate || r == .alert || r == .stairChanged

/-- A composition request, handled whole (R151): the walk, the offer to the speaker queue, the rotors, the answer. -/
def compose (roles : List Role) (s : State) : State × Composed :=
  if s.answersUnwalked roles then offerTone roles none s
  else match resolve s.walkView roles with
    | .error f => offerTone roles (some f.cause) (recordFailure roles f s)
    | .ok w =>
      let s := clear (.internal .clipStore) .phraseFault s
      if w.clips.length ≤ s.pbu.room then
        let s := { s with acu := { s.acu with table := advanceRotors w.rotors s.acu.table } }
        (s.setPbu fun p => p.takeIn ⟨roles, w.clips.map .clip⟩, .admitted w.clips.length w.named)
      else (s, .notAdmitted w.clips.length w.named)

end Sys2Proof.Machine
end

