-- ==== Sys2Proof/Machine/Playback.lean ====
section
/-! DEFINITION. The Playback Unit (chapter 9): the phase program and its repetitions, one-shots, the clip store channel,
paging and the speaker circuits. -/

namespace Sys2Proof.Machine

/-! ## Requests (sections 9.2 and 9.3) -/

/-- An announcement is a repetition of the phase program (R167), else a one-shot (R169). -/
def programRoles (roles : List Role) : Bool := roles.any fun r => r == .evacuate || r == .alert

/-- The gap starts after a repetition (R167). -/
def startGap (s : State) : State :=
  let gap := seconds s.ssu.config.gap
  s.setPbu fun p => { p with playback := .gap, gapExpiry := some (s.now + if s.ssu.supply = .batteryLow then 2 * gap else gap) }

/-- The end of an announcement (R167, R169); the end of a one-shot shows in `settle`. -/
def endAnnouncement (roles : List Role) (s : State) : State :=
  if programRoles roles then startGap s else s

/-- The roles of a repetition (R167, R168). -/
def State.repetition (s : State) : List Role :=
  match s.pbu.program with
  | .none => []
  | .alert => [.alert]
  | .evacuate =>
    if s.pbu.lastNamed.any fun st => s.sau.status[st] == .smokeLogged then [.stairChanged, .evacuate] else [.evacuate]

/-- A request for roles of the phase program, and what its answer does (R167). -/
def requestRoles (roles : List Role) (s : State) : State :=
  match compose roles s with
  | (s, .admitted n named) =>
    let s := s.setPbu fun p =>
      { p with playback := .playing, waiting := none, lastNamed := if roles.contains .evacuate then named else p.lastNamed }
    if n = 0 then endAnnouncement roles s else s
  | (s, .admittedTone _) => s.setPbu fun p => { p with playback := .playing, waiting := none }
  | (s, .notAdmitted _ _) => s.setPbu fun p => { p with waiting := some roles }

/-- A repetition of the phase program requested (R167). -/
def requestProgram (s : State) : State := requestRoles s.repetition s

/-- The role of a one-shot. -/
def oneShotRole : OneShot → Role
  | .allClear => .allClear | .test => .test

/-- The one-shots requested in list order, until one waits for room (R169). -/
def requestEach : List OneShot → State → State
  | [], s => s
  | o :: rest, s =>
    match compose [oneShotRole o] s with
    | (s, .notAdmitted _ _) => s.setPbu fun p => { p with waiting := some [oneShotRole o] }
    | (s, _) =>
      requestEach rest (s.setPbu fun p =>
        { p with playback := .playing, waiting := none, oneShots := p.oneShots.filter fun x => x != o })

/-- The one-shots requested (R169). -/
def requestOneShots (s : State) : State := requestEach s.pbu.oneShots s

/-! ## Playing (R171) -/

/-- The clip at the head of the queue. -/
def Pbu.head (p : Pbu) : Option Clip :=
  match p.queue with
  | a :: _ => a.clips.head?
  | [] => none

/-- The channel and the buffer blocks stopped (R173). -/
def Pbu.stopChannel (p : Pbu) : Pbu :=
  { p with channel := .stopped, blocks := Vector.replicate 2 .empty, underrunFrom := none }

/-- The clip at the head starts where none is in play: a tone sounds, a clip number is fetched (R171, R172). -/
def startHead (s : State) : State :=
  if s.pbu.playback = .paged ∨ s.pbu.inPlay.isSome then s
  else match s.pbu.head with
    | some c =>
      s.setPbu fun p =>
        match c with
        | .tone => { p with playback := .playing, inPlay := some .tone, toneFrom := s.now }
        | .clip n => { p with playback := .playing, inPlay := some (.clip n), channel := .header }
    | none => s

/-- The playback state is SILENT where nothing plays and nothing is due (R166, R169). -/
def settle (s : State) : State :=
  if s.pbu.program = .none ∧ s.pbu.queue = [] ∧ s.pbu.oneShots = [] ∧ s.pbu.playback ≠ .paged then
    s.setPbu fun p => { p with playback := .silent }
  else s

/-- What is requested when nothing is held over: the repetition of the phase program, or else the one-shots, or else
silence (R166 step 5, R178). -/
def requestAnew (s : State) : State :=
  settle (startHead (if s.pbu.program = .none then requestOneShots s else requestProgram s))

/-! ## The phase program (section 9.1) -/

/-- The phase program that follows from phase, alert silence and supply (R165). -/
def programOf (phase : Phase) (silence : Bool) (supply : Supply) : Program :=
  match phase, silence, supply with
  | .normal, _, _ => .none
  | .evacuate, _, _ => .evacuate
  | .alert, false, .mains | .claiming, false, .mains => .alert
  | .alert, _, _ | .claiming, _, _ => .none

/-- A one-shot at the end of the one-shots, unless it is already there. -/
def addOneShot (o : OneShot) (l : List OneShot) : List OneShot := if l.contains o then l else l ++ [o]

/-- A change of the phase program applied (R166, steps 1 to 5). -/
def applyChange (s : State) : State :=
  let kept := if s.pbu.program = .none then s.pbu.oneShots else []
  let shots := if s.pbu.allClearDue then addOneShot .allClear kept else kept
  requestAnew (s.setPbu fun p =>
    { p with queue := [], waiting := none, gapExpiry := none, lastNamed := [], oneShots := shots
             changePending := false, allClearDue := false })

/-- The phase program changes: applied at once where no clip is in play, else at the next clip boundary, or when a page
releases the floor (R166). `allClear` says that a phase notice took the phase to NORMAL. -/
def changeProgram (program : Program) (allClear : Bool) (s : State) : State :=
  let s := s.setPbu fun p =>
    { p with program := program, changePending := true
             allClearDue := program == .none && (allClear || (p.changePending && p.allClearDue)) }
  if s.pbu.playback = .paged ∨ s.pbu.inPlay.isSome then s else applyChange s

/-- The phase program as the own phase, the alert silence and the supply state now give it. -/
def State.derivedProgram (s : State) : Program := programOf s.rgu.phase s.rgu.silence s.ssu.supply

/-- A one-shot appended; requested at once where the playback state is SILENT (R169). -/
def appendOneShot (o : OneShot) (s : State) : State :=
  let s := s.setPbu fun p => { p with oneShots := addOneShot o p.oneShots }
  if s.pbu.playback = .silent ∧ s.pbu.program = .none then requestAnew s else s

/-- The phase program derived again at a change of the alert silence or the supply, and at the entry to JOINING (R165). -/
def deriveProgram (s : State) : State :=
  if s.derivedProgram = s.pbu.program then s else changeProgram s.derivedProgram false s

/-- A phase notice of the Regime Unit, with the phase before it (R165). -/
def playPhase (before : Phase) (s : State) : State :=
  let allClear := before ≠ .normal ∧ s.rgu.phase = .normal
  if s.derivedProgram ≠ s.pbu.program then changeProgram s.derivedProgram allClear s
  else if allClear ∧ s.pbu.program = .none then appendOneShot .allClear s
  else s

/-- The notice of a new epoch at the end of an adoption, with the phase before the adoption: a change even where the
program stays the same (R165). -/
def playEpoch (before : Phase) (s : State) : State :=
  changeProgram s.derivedProgram (before ≠ .normal ∧ s.rgu.phase = .normal) s

/-! ## Clip boundaries (R166, R171) -/

/-- The clip in play leaves the head of the queue, and with its last clip its announcement. -/
def removeClip (s : State) : State :=
  let s := s.setPbu fun p => { p.stopChannel with inPlay := none }
  match s.pbu.queue with
  | [] => s
  | a :: rest =>
    match a.clips.tail with
    | [] => endAnnouncement a.roles (s.setPbu fun p => { p with queue := rest })
    | clips => s.setPbu fun p => { p with queue := { a with clips := clips } :: rest }

/-- What waits is requested again at a clip boundary: the one-shots, or the waiting request of a program (R167, R169). -/
def retry (s : State) : State :=
  if s.pbu.program = .none then requestOneShots s
  else match s.pbu.waiting with
    | some roles => requestRoles roles s
    | none => s

/-- A clip boundary (R166, R171): the clip in play ends; a pending change is applied, or what waits is requested again
and the next clip starts. -/
def clipBoundary (s : State) : State :=
  let s := removeClip s
  if s.pbu.changePending then applyChange s else settle (startHead (retry s))

/-! ## The clip store channel (R172, R173) -/

/-- A clip number found faulty joins the faulted clips; CLIP_FAULT counts it once (R172), before what its clip boundary
brings about (DESIGN CHOICE, log entry 41). -/
def faultClip (n : Nat) (s : State) : State :=
  if s.pbu.faulted.contains n then s
  else raiseAndClear (.internal .clipStore) .clipFault (s.setPbu fun p => { p with faulted := p.faulted ++ [n] })

/-- The length of a header that is good for a clip number (R172). -/
def goodHeader (n : Nat) : Option ClipHeader → Option Nat
  | some h => if h.checkAgrees ∧ h.number = n ∧ 1 ≤ h.length ∧ h.length ≤ 65535 then some h.length else none
  | none => none

/-- A buffer block holds 256 bytes (R172). -/
def blockSize : Nat := 256

/-- A clip header has been read (R172). -/
def headerRead (h : Option ClipHeader) (s : State) : State :=
  match s.pbu.channel, s.pbu.inPlay with
  | .header, some (.clip n) =>
    match goodHeader n h with
    | some len => s.setPbu fun p => { p with channel := .data len, blocks := p.blocks.set 0 ⟨.filling, []⟩ }
    | none => clipBoundary (faultClip n s)
  | _, _ => s

/-- The block that is in a state. -/
def Pbu.blockIn (p : Pbu) (b : BlockState) : Option (Fin 2) :=
  if p.blocks[0].state = b then some 0 else if p.blocks[1].state = b then some 1 else none

/-- The other buffer block. -/
def otherBlock (i : Fin 2) : Fin 2 := if i = 0 then 1 else 0

/-- The next block is filled where it is EMPTY and the clip has data left to fetch (R172). -/
def Pbu.fillNext (p : Pbu) (i : Fin 2) (left : Nat) : Pbu :=
  if p.blocks[i].state = .empty ∧ 0 < left then { p with blocks := p.blocks.set i ⟨.filling, []⟩ } else p

/-- Samples are sounded at 8,000 a second, each 6/5 of a bit time: so many from a moment on have been sounded (R171). -/
def State.soundedSince (s : State) (since : Time) (samples : Nat) : Bool := 6 * samples ≤ 5 * (s.now - since)

/-- The PLAYING block has been sounded to its end. -/
def State.blockDone (s : State) (i : Fin 2) : Bool :=
  s.soundedSince s.pbu.soundFrom (s.pbu.sounded + s.pbu.blocks[i].data.length)

/-- The block being filled is full, or holds the rest of the clip: sounding begins or resumes where no block is
playing, and the other block is filled next (R172, R173). -/
def blockFilled (data : List Byte) (s : State) : State :=
  match s.pbu.channel, s.pbu.blockIn .filling with
  | .data left, some i =>
    if data.length = min blockSize left then
      let left := left - data.length
      let state := if (s.pbu.blockIn .playing).isNone then BlockState.playing else .full
      s.setPbu fun p =>
        ({ p with channel := .data left, blocks := p.blocks.set i ⟨state, data⟩
                  underrunFrom := if state = BlockState.playing then none else p.underrunFrom
                  soundFrom := if state = BlockState.playing then s.now else p.soundFrom
                  sounded := if state = BlockState.playing then 0 else p.sounded }).fillNext (otherBlock i) left
    else s
  | _, _ => s

/-- The PLAYING block has been sounded to its end and the clip has data to come (R172, R173): the other block plays,
or an underrun begins. -/
def blockSounded (s : State) : State :=
  match s.pbu.channel, s.pbu.blockIn .playing with
  | .data left, some i =>
    if s.blockDone i then
      match s.pbu.blocks[otherBlock i].state with
      | .full =>
        s.setPbu fun p =>
          ({ p with blocks := (p.blocks.set i .empty).set (otherBlock i) ⟨.playing, p.blocks[otherBlock i].data⟩
                    sounded := p.sounded + p.blocks[i].data.length }).fillNext i left
      | .filling =>
        s.setPbu fun p =>
          { p with blocks := p.blocks.set i .empty, underruns := min 65535 (p.underruns + 1), underrunFrom := some s.now }
      | .empty | .playing => s
    else s
  | _, _ => s

/-- An underrun has lasted 2 s: the clip is abandoned (R173). -/
def underrunEnds (s : State) : State :=
  match s.pbu.inPlay with
  | some (.clip n) => if s.due (s.pbu.underrunFrom.map (· + underrunTime)) then clipBoundary (faultClip n s) else s
  | _ => s

/-- The last data byte of the clip in play has been sounded (R171, R172). -/
def clipEnds (s : State) : State :=
  match s.pbu.channel, s.pbu.blockIn .playing with
  | .data 0, some i => if s.pbu.blocks[otherBlock i].state = .empty ∧ s.blockDone i then clipBoundary s else s
  | _, _ => s

/-- The built-in tone has run out (R171). -/
def toneEnds (s : State) : State :=
  if s.pbu.inPlay = some .tone ∧ s.reached (s.pbu.toneFrom + toneTime) then clipBoundary s else s

/-- The announcement gap ends (R167). -/
def gapEnds (s : State) : State :=
  if s.pbu.playback = .gap ∧ s.due s.pbu.gapExpiry then
    requestAnew (s.setPbu fun p => { p with gapExpiry := none })
  else s

/-! ## Paging (section 9.5) -/

/-- In scope (R174). -/
def State.inScopeOf (s : State) : PageScope → Bool
  | .all => true
  | .floors fs => match s.ownFloor with
    | some f => flagged fs f
    | none => false

/-- The own page request changed, and PAGE_HELD kept with it (R174). -/
def setOwnRequest (r : OwnRequest) (s : State) : State :=
  keep (r == .owned || r == .stopPending) (.internal .console) .pageHeld (s.setPbu fun p => { p with ownRequest := r })

/-- In scope becomes yes (R178). -/
def pageTakesFloor (s : State) : State :=
  s.setPbu fun p => { p.stopChannel with inScope := true, playback := .paged, inPlay := none, gapExpiry := none, waiting := none }

/-- The one-shots whose announcement stands in the queue. -/
def Pbu.heldOneShots (p : Pbu) : List OneShot :=
  p.queue.filterMap fun a =>
    if a.roles.contains .allClear then some .allClear else if a.roles.contains .test then some .test else none

/-- In scope becomes no: the floor resumes (R178). -/
def pageFreesFloor (s : State) : State :=
  let shots := if s.pbu.program = .none then (s.pbu.heldOneShots ++ s.pbu.oneShots).eraseDups else s.pbu.oneShots
  let s := s.setPbu fun p => { p with inScope := false, playback := .silent, oneShots := shots, queue := [] }
  if s.pbu.changePending then applyChange s else requestAnew s

/-- The own PAGE entry withdrawn: NONE where the entry is gone, and `missed` where it is on the line (R176, R177). -/
def withdrawPage (missed : OwnRequest) (s : State) : State :=
  match withdraw .page s with
  | (s, .withdrawn) => setOwnRequest .none s
  | (s, .tooLate) | (s, .open_) => setOwnRequest missed s

/-- The active page ends (R177). -/
def endPage (why : PageEnd) (s : State) : State :=
  let wasInScope := s.pbu.inScope
  let s := s.setPbu fun p => { p with page := none, inScope := false, lastEnd := some why }
  let s := if wasInScope then pageFreesFloor s else s
  match s.pbu.ownRequest with
  | .stopPending =>
    if why = .timeout ∨ why = .superseded then withdrawPage .stopLate s else setOwnRequest .none s
  | .owned => setOwnRequest .none s
  | .none | .startPending | .late | .stopLate => s

/-- The console is answered BUSY and the PAGE entry withdrawn (R176). -/
def losePage (s : State) : State := withdrawPage .late (answerNow .busy [] s)

/-- A PAGE START heard while the page is IDLE (R176). -/
def beginPage (sender : Sender) (scope : PageScope) (sentHere : Bool) (s : State) : State :=
  let s := s.setPbu fun p => { p with page := some { owner := sender, scope := scope, expiry := s.now + pageTime } }
  let s := if s.inScopeOf scope then pageTakesFloor s else s
  match s.pbu.ownRequest, sentHere with
  | .startPending, true => setOwnRequest .owned (answerNow .accepted [] s)
  | .late, true => setOwnRequest .owned s
  | .startPending, false => losePage s
  | _, _ => s

/-- A PAGE START heard (R176). -/
def pageStartHeard (sender : Sender) (scope : PageScope) (sentHere : Bool) (s : State) : State :=
  match s.pbu.page with
  | none => beginPage sender scope sentHere s
  | some _ =>
    match s.pbu.ownRequest, sentHere with
    | .startPending, false => losePage s
    | .owned, false | .stopPending, false => beginPage sender scope false (endPage .superseded s)
    | .late, true => setOwnRequest .none s
    | .startPending, true => setOwnRequest .none (answerNow .busy [] s)
    | _, _ => s

/-- A PAGE STOP heard (R177). -/
def pageStopHeard (sender : Sender) (sentHere : Bool) (s : State) : State :=
  let s := if s.pbu.page.any (fun p => p.owner == sender) then endPage .stop s else s
  if sentHere ∧ s.pbu.ownRequest = .stopLate then setOwnRequest .none s else s

/-- The roster reports a station LOST (R177). -/
def pageOwnerLost (lost : Sender) (s : State) : State :=
  if s.pbu.page.any (fun p => p.owner == lost) then endPage .ownerLost s else s

/-- The page expiry is reached (R177). -/
def pageExpires (s : State) : State :=
  if s.due (s.pbu.page.map (·.expiry)) then endPage .timeout s else s

/-- The LIF reports that a withdrawn PAGE entry has left the queue after all (R15, R176, R177). -/
def pageEntryGone (s : State) : State :=
  if s.pbu.ownRequest = .late ∨ s.pbu.ownRequest = .stopLate then setOwnRequest .none s else s

/-- START_PAGE at the Playback Unit (R175): absent where the answer waits. -/
def startPageRequest (scope : PageScope) (s : State) : State × Option Answer :=
  if s.pbu.page.isSome ∨ s.pbu.ownRequest ≠ .none then (s, some .busy)
  else match offer (.pageStart scope) s with
    | (s, true) => (setOwnRequest .startPending s, none)
    | (s, false) => (s, some .busy)

/-- STOP_PAGE at the Playback Unit (R175). -/
def stopPageRequest (s : State) : State × Answer :=
  if s.pbu.ownRequest ≠ .owned then (s, .state)
  else match offer .pageStop s with
    | (s, true) => (setOwnRequest .stopPending s, .accepted)
    | (s, false) => (s, .busy)

/-- TEST_ANNOUNCE at the Playback Unit (R170). -/
def testRequest (s : State) : State × Answer :=
  if s.rgu.phase ≠ .normal ∨ s.pbu.oneShots.contains .test ∨ s.pbu.queue.any (fun a => a.roles.contains .test)
      ∨ s.pbu.playback = .paged then (s, .state)
  else (appendOneShot .test s, .accepted)

/-! ## Speaker circuits (R179) -/

/-- A circuit that the configuration names. -/
def State.hasCircuit (s : State) (n : Circuit) : Bool := n.val < s.ssu.config.speakers

/-- A sense reading taken (R179). -/
def circuitTaken (n : Circuit) (r : CircuitSense) (s : State) : State :=
  if s.hasCircuit n then
    keep (r != .normal) (.internal .clipStore) (.circuitFault n)
      (s.setPbu fun p => { p with circuits := p.circuits.set n (some r) })
  else s

/-- A circuit is selected, and its SPK_SEL output energized (R179). -/
def State.circuitSelected (s : State) (n : Circuit) : Bool :=
  s.hasCircuit n && s.entered && s.pbu.circuits[n] == some .normal

end Sys2Proof.Machine
end

