-- ==== Sys2Proof/Machine/Stair.lean ====
section
/-! DEFINITION. The Stair Admission Unit (chapter 5): loads, the split, the claim record, hearing RELEASE and STAIR,
the drain tick, and the stair queues across epochs. -/

namespace Sys2Proof.Machine

/-! ## Loads and the split (sections 5.2 and 5.3) -/

/-- The load of a stair queue (R93). -/
def queueLoad (q : List QueueRecord) : Nat := (q.map (·.persons)).sum

/-- The load of a stair (R93). -/
def Sau.load (u : Sau) (st : Stair) : Nat := queueLoad u.queues[st]

/-- The stairs of the stair count that are IN_SERVICE. -/
def inService (cfg : StationConfig) (status : Vector StairStatus 4) : List Stair :=
  (List.finRange 4).filter fun st => st.val < cfg.stairCount && status[st] == .inService

/-- The stairs that the split divides over, with their weights (R95, steps 1 to 3). -/
def splitWeights (cfg : StationConfig) (status : Vector StairStatus 4) : List (Stair × Nat) :=
  let serving := inService cfg status
  match serving.filter fun st => 0 < cfg.shares[st] with
  | [] => serving.map fun st => (st, 1)
  | shared => shared.map fun st => (st, cfg.shares[st])

/-- The weight of a stair in the split; 0 outside S. -/
def weightOf (l : List (Stair × Nat)) (st : Stair) : Nat :=
  match l.find? fun x => x.1 == st with
  | some x => x.2
  | none => 0

/-- Stair `a` comes before stair `b` for a leftover person (R95, step 6). -/
def before (occupancy total : Nat) (a b : Stair × Nat) : Bool :=
  let ra := occupancy * a.2 % total
  let rb := occupancy * b.2 % total
  rb < ra || (ra == rb && a.1.val < b.1.val)

/-- The split of the occupancy (R95): the persons of each stair. -/
def split (cfg : StationConfig) (status : Vector StairStatus 4) : Vector Nat 4 :=
  let l := splitWeights cfg status
  let total := (l.map (·.2)).sum
  let leftover := cfg.occupancy - (l.map fun x => cfg.occupancy * x.2 / total).sum
  Vector.ofFn fun st =>
    let w := weightOf l st
    if w = 0 then 0
    else
      let ahead := (l.filter fun x => before cfg.occupancy total x (st, w)).length
      cfg.occupancy * w / total + if ahead < leftover then 1 else 0

/-- The split as the stair statuses now give it. -/
def State.split (s : State) : Vector Nat 4 := Sys2Proof.Machine.split s.ssu.config s.sau.status

/-- The admission verdict (R97): FITS. -/
def State.fits (s : State) : Bool :=
  (List.finRange 4).all fun st =>
    s.split[st] == 0 || s.sau.load st == 0 || s.sau.load st + s.split[st] ≤ s.ssu.config.capacity[st]

/-! ## The claim (section 5.4) -/

/-- The floor that the station's own RELEASE names: the own floor, or floor 63 where UNCONFIGURED (R98, R209). -/
def State.claimFloor (s : State) : Floor := s.ownFloor.getD 63

/-- The content of a claim (R98, R209). -/
def State.claimContent (s : State) (forced : Bool) : Release where
  epoch := s.rgu.epoch
  floor := s.claimFloor
  forced := forced
  counts := if s.ssu.config.unconfigured then [0, 0, 0, 0] else s.split.toList.take s.ssu.config.stairCount

/-- A claim asked for (R98): its content is the one last offered, taken or not; the flag says that the offer was taken. -/
def claim (mode : ClaimSort) (s : State) : State × Bool :=
  let content := s.claimContent (mode == .forced)
  match offer (.release content) s with
  | (s, true) => (s.setSau fun u => { u with claim := { u.claim with state := .queued, mode := mode, content := content } }, true)
  | (s, false) => (s.setSau fun u => { u with claim := { u.claim with content := content } }, false)

/-- A QUEUED claim composed again, in a mode; the new content is offered where a field has changed (R99). -/
def refreshClaim (mode : ClaimSort) (s : State) : State :=
  let content := s.claimContent (mode == .forced)
  let s := s.setSau fun u => { u with claim := { u.claim with mode := mode } }
  if s.sau.claim.content = content then s
  else
    let s := (offer (.release content) s).1
    s.setSau fun u => { u with claim := { u.claim with content := content } }

/-- The claim field changed. -/
def State.setClaim (s : State) (c : ClaimState) : State := s.setSau fun u => { u with claim := { u.claim with state := c } }

/-- The claim withdrawn, and the answer to the Regime Unit (R100). -/
def withdrawClaim (s : State) : State × Withdrawal :=
  match s.sau.claim.state with
  | .none => (s, .withdrawn)
  | .fixed => (s, .tooLate)
  | .queued =>
    match withdraw .release s, s.sau.claim.oldCopy with
    | (s, .withdrawn), _ => (s.setSau fun u => { u with claim := { u.claim with state := .none, oldCopy := false } }, .withdrawn)
    | (s, .tooLate), false => (s.setClaim .fixed, .tooLate)
    | (s, .tooLate), true | (s, .open_), true => (s.setClaim .none, .withdrawn)
    | (s, .open_), false => (s, .open_)

/-- The own floor, or floor 63 in its place, has joined the released set: a queued entry is withdrawn, and the claim
becomes NONE whatever the answer (R78, R100, R209). -/
def dropClaim (s : State) : State :=
  match s.sau.claim.state with
  | .none => s
  | .fixed => s.setClaim .none
  | .queued => (withdrawClaim s).1.setClaim .none

/-! ## Reports of the Line Interface (R90, R101, R109) -/

/-- A RELEASE has been sent; `pending` says that pending content is queued (R101). -/
def releaseSent (r : Release) (pending : Bool) (s : State) : State :=
  if r.epoch < s.rgu.epoch then s.setSau fun u => { u with claim := { u.claim with oldCopy := false } }
  else if pending then s
  else s.setClaim .none

/-- A RELEASE that was withdrawn too late has been abandoned, or one whose withdrawal was open has lost its arbitration
byte: the Line Interface answers WITHDRAWN (R15, R100, R109). The flag says that the Regime Unit is told WITHDRAWN. -/
def releaseGone (r : Release) (s : State) : State × Bool :=
  if r.epoch < s.rgu.epoch then (s.setSau fun u => { u with claim := { u.claim with oldCopy := false } }, false)
  else if s.sau.claim.state = .none then (s, false)
  else (s.setClaim .none, true)

/-- A RELEASE whose withdrawal was open has won its arbitration byte: the Line Interface answers TOO_LATE. -/
def releaseWon (r : Release) (s : State) : State :=
  if r.epoch < s.rgu.epoch then s.setSau fun u => { u with claim := { u.claim with oldCopy := true } }
  else if s.sau.claim.state = .queued then s.setClaim .fixed
  else s

/-- A smoke offer changed. -/
def State.setSmokeOffer (s : State) (st : Stair) (v : Option Nat) : State :=
  s.setSau fun u => { u with smokeOffer := u.smokeOffer.set st v }

/-- A STAIR has been sent, with the content that follows it where there is one (R90). -/
def stairSent (st : Stair) (pending : Option Content) (s : State) : State :=
  s.setSmokeOffer st (match pending with | some c => c.epoch? | none => none)

/-! ## Smoke reports and STAIR (R90, R91) -/

/-- A smoke report of the Point Unit (R90). -/
def smokeReport (st : Stair) (s : State) : State :=
  if !s.hasStair st || s.sau.status[st] == .smokeLogged || s.sau.smokeOffer[st] == some s.rgu.epoch then s
  else match offer (.stair s.rgu.epoch st .smokeLogged) s with
    | (s, true) => s.setSmokeOffer st (some s.rgu.epoch)
    | (s, false) => s

/-- A stair becomes SMOKE_LOGGED. -/
def logStair (st : Stair) (s : State) : State := s.setSau fun u => { u with status := u.status.set st .smokeLogged }

/-- A STAIR heard (R91). -/
def stairHeard (st : Stair) (status : StairStatus) (s : State) : State :=
  if s.hasStair st ∧ status = .smokeLogged then logStair st s else s

/-! ## RELEASE (section 5.5) -/

/-- The count of a RELEASE for a stair of this station (R25). -/
def Release.countFor (r : Release) (st : Stair) : Nat := r.counts[st.val]?.getD 0

/-- The stairs that a RELEASE sends its floor into, in ascending order. -/
def State.stairsOf (s : State) (r : Release) : List Stair :=
  (List.finRange 4).filter fun st => s.hasStair st && 0 < r.countFor st

/-- A RELEASE heard (R102, R103). -/
def releaseHeard (r : Release) (s : State) : State :=
  if flagged s.sau.released r.floor then s
  else s.setSau fun u =>
    { u with
      released := withFlag u.released r.floor
      queues := each u.queues fun st q =>
        if s.hasStair st ∧ 0 < r.countFor st then q ++ [⟨some r.floor, r.countFor st, s.rgu.epoch⟩] else q
      assigned := if s.ownFloor = some r.floor then s.stairsOf r else u.assigned }

/-! ## The drain tick (section 5.6) -/

/-- A stair queue drained by an amount, from its head (R105). -/
def drainQueue : Nat → List QueueRecord → List QueueRecord
  | _, [] => []
  | n, q :: rest =>
    if q.persons ≤ n then drainQueue (n - q.persons) rest else { q with persons := q.persons - n } :: rest

/-- Every stair queue drained (R105). -/
def drainAll (s : State) : State :=
  s.setSau fun u =>
    { u with queues := each u.queues fun st q => if s.hasStair st then drainQueue s.ssu.config.drain[st] q else q }

/-! ## Epochs (section 5.7) -/

/-- The start of a new epoch (R107). -/
def newEpoch (s : State) : State :=
  s.setSau fun u =>
    { u with
      released := 0, assigned := [], queues := Vector.replicate 4 [], status := Vector.replicate 4 .inService
      claim := { u.claim with state := .none } }

/-- The own floor is in the released set. -/
def State.ownReleased (s : State) : Bool :=
  match s.ownFloor with
  | some f => flagged s.sau.released f
  | none => false

/-- The synthetic record of a stair (R108): none where it would hold no persons. -/
def syntheticQueue (load floors epoch : Nat) : List QueueRecord :=
  if min load (1023 * floors) = 0 then [] else [⟨none, min load (1023 * floors), epoch⟩]

/-- The view of a STATUS taken (R108). -/
def takeView (r : StatusReport) (s : State) : State :=
  let released := s.sau.released ||| r.released
  let s := s.setSau fun u =>
    { u with
      released := released
      status := each u.status fun st v => if s.hasStair st && r.logged[st] then .smokeLogged else v
      queues := each u.queues fun st q =>
        if s.hasStair st then syntheticQueue r.loads[st] (flagCount released) s.rgu.epoch else q }
  if s.ownReleased ∧ s.sau.assigned = [] then
    let counts := s.split
    s.setSau fun u => { u with assigned := (List.finRange 4).filter fun st => 0 < counts[st] }
  else s

/-- The RELEASE of the old epoch withdrawn at an adoption (R109). -/
def withdrawOldRelease (s : State) : State :=
  match withdraw .release s with
  | (s, .withdrawn) => s.setSau fun u => { u with claim := { u.claim with oldCopy := false } }
  | (s, .tooLate) => s.setSau fun u => { u with claim := { u.claim with oldCopy := true } }
  | (s, .open_) => s

/-- The STAIR of an old epoch withdrawn at an adoption (R109). -/
def withdrawOldStair (st : Stair) (s : State) : State :=
  match s.sau.smokeOffer[st] with
  | some e => if e < s.rgu.epoch then (withdraw (.stair st) s).1.setSmokeOffer st none else s
  | none => s

/-- The old-epoch work of the Stair Admission Unit withdrawn at step 8 of an adoption (R109). -/
def withdrawOldWork (s : State) : State :=
  (List.finRange 4).foldl (fun s st => withdrawOldStair st s) (withdrawOldRelease s)

end Sys2Proof.Machine
end

