-- ==== Sys2Proof/Machine/Regime.lean ====
section
/-! DEFINITION. The Regime Unit (chapter 4): the contribution sets, the floor condition map, the release order, the
alert silence, and the evaluation of the phase. -/

namespace Sys2Proof.Machine

/-! ## The floor condition map (section 4.3) -/

/-- The contribution sets of the view: the own set under the own number, and the stored sets (R70). -/
def State.sets (s : State) : List (Option Sender × List Entry) :=
  (s.ssu.station, s.rgu.own) ::
    (List.finRange 63).filterMap fun n => s.rgu.stored[n].map fun l => (some n, l)

/-- Some set holds an entry for a place; `none` is GENERAL. -/
def holdsPlace (sets : List (Option Sender × List Entry)) (place : Option Floor) : Bool :=
  sets.any fun x => x.2.any fun e => e.place == place

/-- The causes of the entries for a place, in the order of R38. -/
def causesOf (sets : List (Option Sender × List Entry)) (place : Option Floor) : List Cause :=
  allCauses.filter fun c => sets.any fun x => x.2.contains ⟨place, c⟩

/-- The stations whose sets hold an entry for a place, ascending. -/
def reportingOf (sets : List (Option Sender × List Entry)) (place : Option Floor) : List Sender :=
  (List.finRange 63).filter fun n => sets.any fun x => x.1 == some n && x.2.any fun e => e.place == place

/-- The floor condition map of the sets (R70). -/
def mapOf (sets : List (Option Sender × List Entry)) : FloorMap :=
  let sets := sets.filter fun x => !x.2.isEmpty
  { general := holdsPlace sets none
    generalCauses := causesOf sets none
    generalReporting := reportingOf sets none
    fires := ((List.finRange 64).filter fun f => holdsPlace sets (some f)).map fun f =>
      { floor := f, lobby := (causesOf sets (some f)).contains .lobby, causes := causesOf sets (some f)
        reporting := reportingOf sets (some f) } }

/-- A floor is a fire floor (R70). -/
def FloorMap.fire (m : FloorMap) (f : Floor) : Bool := m.fires.any fun r => r.floor == f

/-- A floor has become a fire floor, or GENERAL has become yes (R71, R84). -/
def FloorMap.newFire (m before : FloorMap) : Bool :=
  (m.general && !before.general) || m.fires.any fun r => !before.fire r.floor

/-- The floors whose lobby is in fire. -/
def FloorMap.lobbies (m : FloorMap) : List Floor := (m.fires.filter (·.lobby)).map (·.floor)

/-! ## Alert silence (section 4.7) -/

/-- The alert silence cleared without a word to the Playback Unit, as at step 6 of an adoption (R84, R88). -/
def endSilence (s : State) : State :=
  if s.rgu.silence then clear (.internal .console) .alertSilenced (s.setRgu fun r => { r with silence := false }) else s

/-- The alert silence clears, and the Playback Unit is told (R84). -/
def clearSilence (s : State) : State := if s.rgu.silence then deriveProgram (endSilence s) else s

/-- A SILENCE_ALERT command heard (R83). -/
def silenceHeard (s : State) : State :=
  if s.rgu.silence then s
  else deriveProgram (raise (.internal .console) .alertSilenced (s.setRgu fun r => { r with silence := true }))

/-- The map derived again, and its differences passed on (R70, R71). `gather` holds back those of the Lift Unit, which
takes them at the end of an adoption's handling (R142; for those of step 7 DESIGN CHOICE, log entry 49). -/
def deriveMap (gather : Bool) (s : State) : State :=
  let before := s.rgu.map
  let m := mapOf s.sets
  let s := s.setRgu fun r => { r with map := m }
  let s := if m.newFire before then clearSilence s else s
  if gather then s
  else
    let s := if m.fireInView ∧ !before.fireInView then liftsFire s else s
    if m.lobbies = before.lobbies then s else eachBank lobbyChange s

/-! ## The neighbourhood and the release order (sections 4.4 and 4.6) -/

/-- A floor is in the neighbourhood (R72). -/
def State.inNeighbourhood (s : State) (f : Floor) : Bool :=
  s.rgu.map.general || s.rgu.map.fires.any fun a =>
    (a.floor.val ≤ f.val && f.val ≤ a.floor.val + s.ssu.config.reachAbove)
      || (a.floor.val ≤ f.val + s.ssu.config.reachBelow && f.val ≤ a.floor.val)

/-- The difference of two floor numbers. -/
def floorDistance (a b : Floor) : Nat := if a ≤ b then b.val - a.val else a.val - b.val

/-- The distance of a floor from the nearest fire floor (R81). -/
def FloorMap.distance (m : FloorMap) (f : Floor) : Nat :=
  (m.fires.map fun r => floorDistance r.floor f).foldl min 64

/-- The side of a floor (R81). -/
def FloorMap.side (m : FloorMap) (f : Floor) : Nat :=
  let d := m.distance f
  if 0 < d ∧ d ≤ f.val ∧ m.fires.any (fun r => r.floor.val + d == f.val) then 0 else 1

/-- Floor `f` has a smaller release key than floor `g` (R81). -/
def FloorMap.precedes (m : FloorMap) (f g : Floor) : Bool :=
  m.distance f < m.distance g
    || (m.distance f == m.distance g && (m.side f < m.side g || (m.side f == m.side g && g < f)))

/-- A roster floor (R35): the own floor of a PRESENT record; the station's own record stands among them (R31). -/
def State.rosterFloor (s : State) (f : Floor) : Bool :=
  (List.finRange 63).any fun n =>
    match s.bdr.roster[n] with
    | some r => r.presence == .present && r.floor == some f
    | none => false

/-- The own floor `f` is eligible (R82). -/
def State.eligible (s : State) (f : Floor) : Bool :=
  !s.rgu.map.general && !s.rgu.map.fires.isEmpty && s.rosterFloor f && !flagged s.sau.released f
    && (List.finRange 64).all fun g =>
      flagged s.sau.released g || !s.rosterFloor g || !s.rgu.map.precedes g f

/-! ## Evaluation of the phase (section 4.5) -/

/-- The phase and the claim mode set. -/
def State.setPhase (s : State) (p : Phase) (m : ClaimMode) : State := s.setRgu fun r => { r with phase := p, mode := m }

/-- The claim mode of a station in CLAIMING, as the claim record has it. -/
def ClaimSort.mode : ClaimSort → ClaimMode
  | .forced => .forced | .nonForced => .nonForced

/-- A claim asked of the Stair Admission Unit: CLAIMING where the offer is taken, else ALERT (R75). -/
def makeClaim (sort : ClaimSort) (s : State) : State :=
  match claim sort s with
  | (s, true) => s.setPhase .claiming sort.mode
  | (s, false) => s.setPhase .alert .none

/-- The evaluation in NORMAL and ALERT (R73, R75). -/
def enterPhase (f : Floor) (s : State) : State :=
  if !s.rgu.map.fireInView then s.setPhase .normal .none
  else if s.inNeighbourhood f then makeClaim .forced s
  else if s.ssu.join ≠ .joining ∧ s.eligible f ∧ s.fits then makeClaim .nonForced s
  else s.setPhase .alert .none

/-- A claim withdrawn in CLAIMING (R76, R77): WITHDRAWN gives `next`; otherwise the phase stays. -/
def leaveClaim (next : Phase) (s : State) : State :=
  match withdrawClaim s with
  | (s, .withdrawn) => s.setPhase next .none
  | (s, .tooLate) | (s, .open_) => s

/-- The withdrawal of the own RELEASE has been asked for and its answer is open (R15). -/
def State.withdrawalOpen (s : State) : Bool :=
  match s.lif.inSlot .release with
  | some e => e.withdrawn && e.state == .arbitrating && !s.sau.claim.oldCopy
  | none => false

/-- The evaluation in CLAIMING (R76, R77, R99). -/
def recheckClaim (f : Floor) (s : State) : State :=
  if !s.rgu.map.fireInView then leaveClaim .normal s
  else if s.sau.claim.state ≠ .queued ∨ s.withdrawalOpen then s
  else match s.rgu.mode with
    | .forced => refreshClaim .forced s
    | .nonForced | .none =>
      if s.inNeighbourhood f then (refreshClaim .forced s).setPhase .claiming .forced
      else if s.eligible f ∧ s.fits then refreshClaim .nonForced s
      else leaveClaim .alert s

/-- The claim of an UNCONFIGURED station (R209). -/
def unconfiguredClaim (s : State) : State :=
  if flagged s.sau.released s.claimFloor then dropClaim s
  else if !s.rgu.map.fireInView then (withdrawClaim s).1
  else if s.sau.claim.state = .none then (claim .forced s).1
  else s

/-- The evaluation of a station whose own floor is not known (R80). -/
def evaluateFloorless (s : State) : State :=
  let s := s.setPhase (if s.rgu.map.fireInView then .alert else .normal) .none
  if s.ssu.config.unconfigured then unconfiguredClaim s else s

/-- The evaluation of the phase (R73 to R78, R80), without the notice of R79. -/
def evaluatePhase (s : State) : State :=
  match s.ownFloor with
  | none => evaluateFloorless s
  | some f =>
    if flagged s.sau.released f then (dropClaim s).setPhase .evacuate .none
    else match s.rgu.phase with
      | .claiming => recheckClaim f s
      | .normal | .alert | .evacuate => enterPhase f s

/-- The notice of a phase that an event has changed (R79). -/
def phaseNotice (before : Phase) (s : State) : State :=
  if s.rgu.phase = before then s else playPhase before (leavesFollow s)

/-- The phase evaluated, and passed on where it changed (R74, R79). -/
def evaluate (s : State) : State := phaseNotice s.rgu.phase (evaluatePhase s)

/-- The Line Interface has answered WITHDRAWN to an open or a late withdrawal: ALERT, and the evaluation that follows
(R74, R76, R77). -/
def claimGone (s : State) : State :=
  match s.ownFloor, s.rgu.phase with
  | some _, .claiming => phaseNotice .claiming (evaluatePhase (s.setPhase .alert .none))
  | _, _ => evaluate s

/-! ## The contribution sets (sections 4.1 and 4.2) -/

/-- Answers to a contribution offer (R45). -/
inductive OfferAnswer
  | added | held | refused
deriving DecidableEq, Repr

/-- The most entries of a contribution set (R65). -/
def setLimit : Nat := 16

/-- The content of the station's CONDITION (R66). -/
def State.conditionContent (s : State) : Content := .condition s.rgu.epoch s.rgu.own

/-- A contribution offer answered (R65 to R67); the offer of the CONDITION goes with ADDED. -/
def addOwn (e : Entry) (s : State) : State × OfferAnswer :=
  if s.rgu.own.contains e then (s, .held)
  else if s.rgu.own.length < setLimit then
    let s := s.setRgu fun r => { r with own := r.own ++ [e] }
    ((offer s.conditionContent s).1, .added)
  else (s, .refused)

/-- What follows an ADDED answer outside a rebuild: the map and the phase (R70, R74). -/
def ownSetChanged (s : State) : State := evaluate (deriveMap false s)

/-- The stored set of a station replaced whole (R68, R69). -/
def storeSet (gather : Bool) (n : Sender) (l : List Entry) (s : State) : State :=
  deriveMap gather (keep (!l.isEmpty) (.station n) .fireReported
    (s.setRgu fun r => { r with stored := r.stored.set n (some l) }))

end Sys2Proof.Machine
end

