-- ==== Sys2Proof/Machine/Points.lean ====
section
/-! DEFINITION. The Point Unit (chapter 3): readings, contributions, verification, passing values, isolation and the
rebuild at an epoch change; and the supply state and the level roles that its values decide (R195, R211). -/

namespace Sys2Proof.Machine

/-! ## The point record -/

/-- The configured type of a point. -/
def State.pointType (s : State) (p : Point) : PointType := s.ssu.config.points[p].type

/-- The record of a point. -/
def State.point (s : State) (p : Point) : PointRecord := s.ptu.points[p]

/-- The decoder of a point changed. -/
def State.setDecoder (s : State) (p : Point) (f : Decoder → Decoder) : State :=
  s.setPoint p fun r => { r with decoder := f r.decoder }

/-- The supply group of a DETECTOR or LOBBY point (R41). -/
def groupOf : PointType → Option Group
  | .detector g => some g
  | .lobby g => some g
  | _ => none

/-- A type of which contributions are offered (R44). -/
def alarmType : PointType → Bool
  | .detector _ | .callPoint | .lobby _ | .stairSmoke _ | .machineRoom _ | .hoistway _ | .legacyCoded
  | .legacyGeneral => true
  | _ => false

/-- The point senses ACTIVE: by its reading, or under a fault by its last good reading (R43, R53, R58). -/
def PointRecord.senses (r : PointRecord) : Bool :=
  match r.reading with
  | .active => true
  | .openLoop | .short => r.lastGood == some true
  | .untaken | .normal => false

/-! ## Offering contributions (R45) -/

/-- The place of a contribution for the own floor: GENERAL where it is not known. -/
def State.ownPlace (s : State) : Option Floor := s.ownFloor

/-- A contribution offered: a REFUSED answer raises CONTRIBUTION_FULL, and whatever the answer, the point then enters
FIRE and raises ALARM (R44, R45, R67; DEDUCED order, log entry 37). -/
def offerFire (p : Point) (e : Entry) (s : State) : State :=
  let (s, answer) := addOwn e s
  let s := if answer = .refused then raise (.point p) .contributionFull s else s
  raise (.point p) .alarm (s.setPoint p fun r => { r with logical := .fire })

/-- A STAIR_SMOKE point enters FIRE, and reports smoke (R52). -/
def offerSmoke (p : Point) (st : Stair) (s : State) : State :=
  smokeReport st (offerFire p ⟨s.ownPlace, .stair⟩ s)

/-- The contribution of a point of an alarm type that is not decoded (R46, R51 to R53). -/
def offerPoint (p : Point) (s : State) : State :=
  match s.pointType p with
  | .detector _ => offerFire p ⟨s.ownPlace, .detector⟩ s
  | .lobby _ => offerFire p ⟨s.ownPlace, .lobby⟩ s
  | .callPoint => offerFire p ⟨s.ownPlace, .callPoint⟩ s
  | .stairSmoke st => offerSmoke p st s
  | .machineRoom _ => offerFire p ⟨s.ownPlace, .machineRoom⟩ s
  | .hoistway _ => offerFire p ⟨s.ownPlace, .hoistway⟩ s
  | .legacyGeneral => offerFire p ⟨none, .legacyGeneral⟩ s
  | _ => s

/-! ## Verification (section 3.4) -/

/-- A verified point enters PRE_ALARM, and the cut of its group starts or restarts (R47, R48). -/
def preAlarm (p : Point) (g : Group) (s : State) : State :=
  let s := raise (.point p) .verifying (s.setPoint p fun r => { r with logical := .preAlarm })
  { s with ptu := { s.ptu with cuts := s.ptu.cuts.set g (some (s.now + cutTime)) } }

/-- Verification in progress is cancelled (R50). -/
def cancelVerification (p : Point) (s : State) : State :=
  match (s.point p).logical with
  | .preAlarm | .confirming =>
    clear (.point p) .verifying (s.setPoint p fun r => { r with logical := .normal, windowExpiry := none })
  | .normal | .fire | .active => s

/-- A change to ACTIVE at a DETECTOR or LOBBY point, or an ACTIVE reading in CONFIRMING, where ALARM is raised before
VERIFYING clears (R46, R47, R49; DEDUCED order, log entry 37). -/
def detectorActive (p : Point) (g : Group) (s : State) : State :=
  match (s.point p).logical with
  | .normal => if s.ssu.config.points[p].verification then preAlarm p g s else offerPoint p s
  | .confirming =>
    if s.due (s.point p).windowExpiry then s
    else clear (.point p) .verifying (offerPoint p (s.setPoint p fun r => { r with windowExpiry := none }))
  | .preAlarm | .fire | .active => s

/-- The end of a group's cut at a moment: every PRE_ALARM point of the group enters CONFIRMING, and the filters of the
group's points start afresh (R47, R48). -/
def endCut (g : Group) (at_ : Time) (s : State) : State :=
  { s with
    ptu :=
      { points := each s.ptu.points fun p r =>
          if groupOf (s.pointType p) = some g then
            if r.logical = .preAlarm then
              { r with logical := .confirming, windowExpiry := some (at_ + windowTime), filterFrom := at_ }
            else { r with filterFrom := at_ }
          else r
        cuts := s.ptu.cuts.set g none } }

/-- The cut of a group has run its time (R48). -/
def cutEnds (g : Group) (s : State) : State :=
  match s.ptu.cuts[g] with
  | some t => if s.reached t then endCut g t s else s
  | none => s

/-- The confirmation window of a point is reached (R49): VERIFYING clears before DETECTOR_UNSTABLE is raised (DEDUCED
order, log entry 37). -/
def windowEnds (p : Point) (s : State) : State :=
  if (s.point p).logical = .confirming ∧ s.due (s.point p).windowExpiry then
    let count := min 3 ((s.point p).unconfirmed + 1)
    let s := clear (.point p) .verifying
      (s.setPoint p fun r => { r with logical := .normal, windowExpiry := none, unconfirmed := count })
    if count = 3 then raise (.point p) .detectorUnstable s else s
  else s

/-! ## Passing types (R54, R55) -/

/-- What a point presents: `none` where it is isolated or has no good reading. -/
def PointRecord.presents (r : PointRecord) : Option Bool := if r.isolated then none else r.lastGood

/-- The fixed value of a passing type (R55); that of the leaf types is absence, which R113 handles. -/
def fixedValue : PointType → Bool
  | .carAvailable _ _ => true
  | _ => false

/-- What the points of a role present, the absent ones left out. -/
def State.presented (s : State) (role : PointType) : List Bool :=
  (List.finRange 32).filterMap fun p => if s.pointType p = role then (s.point p).presents else none

/-- The combined value of a leaf role: absent where no point presents one (R113). -/
def State.leafValue (s : State) (role : PointType) : Option Bool :=
  match s.presented role with
  | [] => none
  | l => some (l.any id)

/-- The combined value of any other role (R54): available while every point presents it, ACTIVE while any does. -/
def State.roleValue (s : State) (role : PointType) : Bool :=
  match role with
  | .carAvailable _ _ => (s.presented role).all id
  | _ => (s.presented role).any id

/-- A car of the station's configuration. -/
def State.hasCar (s : State) (b : Bank) (c : Car) : Bool :=
  match s.ssu.config.banks[b] with
  | some cfg => Sys2Proof.Machine.hasCar cfg c
  | none => false

/-- An input of a car passed on where its combined value has changed. -/
def passCar (b : Bank) (c : Car) (role : PointType) (held : CarRecord → Bool) (pass : Bank → Car → Bool → State → State)
    (s : State) : State :=
  match s.lfu.banks[b] with
  | some r => if s.hasCar b c ∧ held r.cars[c] ≠ s.roleValue role then pass b c (s.roleValue role) s else s
  | none => s

/-- The supply state that the two roles give (R211). -/
def supplyOf (mainsFailed batteryLow : Bool) : Supply :=
  match mainsFailed, batteryLow with
  | false, _ => .mains
  | true, false => .battery
  | true, true => .batteryLow

/-- The supply state derived again, and a change passed on (R211). -/
def deriveSupply (s : State) : State :=
  let v := supplyOf s.ssu.mainsFailed s.ssu.batteryLow
  if v = s.ssu.supply then s
  else deriveProgram (leavesFollow (keep (v != .mains) (.internal .supply) .supply (s.setSsu fun u => { u with supply := v })))

/-- The value of a passing point's role passed to its owner (R54). -/
def passPoint (p : Point) (s : State) : State :=
  let role := s.pointType p
  match role with
  | .leafPosition st =>
    let v := (s.leafValue role).map fun a => if a then LeafPosition.opened else .closed
    changeLeaf st (fun l => { l with position := v }) s
  | .lockFeedback st =>
    let v := s.leafValue role
    changeLeaf st (fun l => { l with engaged := v }) s
  | .carAvailable b c => passCar b c role (·.available) carAvailable s
  | .carParked b c => passCar b c role (·.parked) carParked s
  | .carKey b c => passCar b c role (·.key) carKey s
  | .mainsFail => deriveSupply (s.setSsu fun u => { u with mainsFailed := s.roleValue role })
  | .batteryLow => deriveSupply (s.setSsu fun u => { u with batteryLow := s.roleValue role })
  | .level2Key => s.setCpt fun c => { c with key2 := s.roleValue role }
  | .level3Key => s.setCpt fun c => { c with key3 := s.roleValue role }
  | .level4Jumper => s.setCpt fun c => { c with jumper4 := s.roleValue role }
  | .detector _ | .callPoint | .lobby _ | .stairSmoke _ | .machineRoom _ | .hoistway _ | .legacyCoded
  | .legacyGeneral => s

/-- The logical state of a passing point that is not isolated follows its last good reading, and stays while it has
none (R43, R44; DEDUCED, log entry 38); an isolated point presents the fixed value of its type (R55), and a LEAF_POSITION
or LOCK_FEEDBACK, which has none, stands in NORMAL (DESIGN CHOICE, log entry 42). -/
def PointRecord.passingLogical (type : PointType) (r : PointRecord) : Logical :=
  if r.isolated then (if fixedValue type then .active else .normal)
  else match r.lastGood with
    | some true => .active
    | some false => .normal
    | none => r.logical

/-- The logical state of a passing point brought up to date (R44). -/
def followLogical (p : Point) (s : State) : State :=
  if alarmType (s.pointType p) then s
  else s.setPoint p fun r => { r with logical := r.passingLogical (s.pointType p) }

/-! ## The alarm of a bank (R53) -/

/-- The point counts for the alarm of a bank. -/
def alarmsBank (b : Bank) (type : PointType) (r : PointRecord) : Bool :=
  (type == .machineRoom b || type == .hoistway b) && !r.isolated && (r.senses || r.logical == .fire)

/-- The alarm of a bank. -/
def State.bankAlarm (s : State) (b : Bank) : Bool :=
  (List.finRange 32).any fun p => alarmsBank b (s.pointType p) (s.point p)

/-- The alarm of a bank reported where it has changed. -/
def reportBank (b : Bank) (s : State) : State :=
  match s.lfu.banks[b] with
  | some r => if r.alarm = s.bankAlarm b then s else alarmReport b (s.bankAlarm b) s
  | none => s

/-- The alarms of both banks reported where they have changed. -/
def reportBanks (s : State) : State := eachBank reportBank s

/-! ## Decoded codes (R62, R63) -/

/-- The first code table entry that holds a code. -/
def State.codeFloor (s : State) (code : List Nat) : Option Floor :=
  (s.ssu.config.codes.toList.findSome? fun e => e.filter fun e => e.digits == code).map (·.floor)

/-- A decoded code looked up (R63); an unknown one raises CODE_UNKNOWN behind ALARM (DEDUCED order, log entry 37). -/
def lookUp (p : Point) (code : List Nat) (s : State) : State :=
  match s.codeFloor code with
  | some f => offerFire p ⟨some f, .legacyZone⟩ s
  | none =>
    raise (.point p) .codeUnknown
      (offerFire p ⟨none, .legacyGeneral⟩ (s.setDecoder p fun d => { d with lastUnknown := some code }))

/-- The round of a point closes (R62). -/
def closeRound (p : Point) (s : State) : State :=
  let (d, code) := (s.point p).decoder.closeRound
  let s := s.setDecoder p fun _ => d
  match code with
  | some c => lookUp p c s
  | none => s

/-- Digit and round ends that have been reached take effect (R60, R61). -/
def decoderCatchUp (p : Point) (s : State) : State :=
  if (s.point p).decoder.roundDue s.now then closeRound p s else s.setDecoder p fun d => d.catchUp s.now

/-- A change of reading at a LEGACY_CODED point (R60). -/
def decoderChange (p : Point) (active : Bool) (s : State) : State :=
  if active then (decoderCatchUp p s).setDecoder p fun d => d.pulseBegins s.now
  else decoderCatchUp p (s.setDecoder p fun d => d.pulseEnds s.now)

/-- The continuous timer of a point has passed 8 s (R63). -/
def continuousRing (p : Point) (s : State) : State :=
  if s.pointType p = .legacyCoded ∧ !(s.point p).isolated ∧ (s.point p).decoder.ringDue s.now then
    offerFire p ⟨none, .legacyGeneral⟩ (s.setDecoder p Decoder.spoil)
  else s

/-- The open digit of a point closes (R61). -/
def digitCloses (p : Point) (s : State) : State :=
  if s.pointType p = .legacyCoded ∧ !(s.point p).isolated then s.setDecoder p fun d => d.catchUp s.now else s

/-- The round of a point closes (R61, R62). -/
def roundCloses (p : Point) (s : State) : State :=
  if s.pointType p = .legacyCoded ∧ !(s.point p).isolated ∧ (s.point p).decoder.roundDue s.now then closeRound p s else s

/-! ## Readings (section 3.2) -/

/-- The filter time of a state at a point (R42). -/
def filterOf (type : PointType) (r : Sensed) : Time :=
  match type, r with
  | .legacyCoded, .normal | .legacyCoded, .active => codedFilterTime
  | _, _ => filterTime

/-- No reading is taken on a DETECTOR or LOBBY point while its group is CUT (R48). That holds from the reading that starts
the cut on, so a second ACTIVE reading of the group at that moment is not taken, and the extension of R48 never arises
(DESIGN CHOICE, log entry 48). -/
def State.blind (s : State) (p : Point) : Bool :=
  match groupOf (s.pointType p) with
  | some g => s.ptu.cuts[g].isSome
  | none => false

/-- The point can take a reading (R42): its terminal can show the state, its group has its supply, and its filter time
has run. -/
def State.canTake (s : State) (p : Point) (r : Sensed) : Bool :=
  (s.ssu.config.points[p].supervised || r == .normal || r == .active) && !s.blind p
    && s.reached ((s.point p).filterFrom + filterOf (s.pointType p) r)

/-- A change to ACTIVE at a point that is not isolated, by its type (R46, R51 to R53). -/
def pointActive (p : Point) (s : State) : State :=
  match s.pointType p with
  | .detector g | .lobby g => detectorActive p g s
  | .callPoint =>
    if (s.point p).logical = .normal ∧ (s.point p).armed then
      (offerPoint p s).setPoint p fun r => { r with armed := false }
    else s
  | .stairSmoke _ | .machineRoom _ | .hoistway _ | .legacyGeneral =>
    if (s.point p).logical = .normal then offerPoint p s else s
  | _ => s

/-- A good reading handled, with the record before it (R43). -/
def goodReading (p : Point) (before : PointRecord) (active : Bool) (s : State) : State :=
  let s := clear (.point p) .openCircuit (clear (.point p) .shortCircuit s)
  let s := s.setPoint p fun r => { r with lastGood := some active, renew := false }
  if before.isolated then s
  else if s.pointType p = .legacyCoded then
    if before.lastGood.isNone ∨ before.reading = .openLoop ∨ before.reading = .short then
      s.setDecoder p fun d => d.begin active s.now
    else if before.lastGood = some active then s
    else decoderChange p active s
  else if active then
    if before.lastGood ≠ some true ∨ before.renew ∨ before.logical = .confirming then pointActive p s else s
  else if s.pointType p = .callPoint then s.setPoint p fun r => { r with armed := true }
  else s

/-- A fault reading handled (R43, R64): the other fault's condition clears before this one's is raised (DEDUCED order,
log entry 37). -/
def faultReading (p : Point) (isOpen : Bool) (s : State) : State :=
  let s := if isOpen then raise (.point p) .openCircuit (clear (.point p) .shortCircuit s)
    else raise (.point p) .shortCircuit (clear (.point p) .openCircuit s)
  if s.pointType p = .legacyCoded ∧ !(s.point p).isolated then s.setDecoder p Decoder.abandon else s

/-- What follows a change at a point: passing values, bank alarms, and the map and the phase where the own set has
changed from `own` (R53, R54, R74). -/
def pointFollows (p : Point) (own : List Entry) (s : State) : State :=
  let s := reportBanks (passPoint p (followLogical p s))
  if s.rgu.own = own then s else ownSetChanged s

/-- The reading that a sensed state becomes (R42). -/
def readingOf : Sensed → Reading
  | .normal => .normal | .active => .active | .openLoop => .openLoop | .short => .short

/-- A reading taken at a point (R42, R43). -/
def takeReading (p : Point) (r : Sensed) (s : State) : State :=
  let before := s.point p
  let s' := s.setPoint p fun q => { q with reading := readingOf r }
  let s' := match r with
    | .normal => goodReading p before false s'
    | .active => goodReading p before true s'
    | .openLoop => if before.reading = .openLoop then s' else faultReading p true s'
    | .short => if before.reading = .short then s' else faultReading p false s'
  pointFollows p s.rgu.own s'

/-! ## Isolation (section 3.6) -/

/-- The types that cannot be isolated (R56). -/
def keyType : PointType → Bool
  | .level2Key | .level3Key | .level4Jumper => true
  | _ => false

/-- ISOLATE_POINT at the Point Unit, with its answer: ISOLATED is raised before a verification is cancelled (R56; DEDUCED
order, log entry 37). -/
def isolatePoint (p : Point) (s : State) : State × Answer :=
  if (s.point p).isolated ∨ keyType (s.pointType p) then (s, .state)
  else
    let s' := cancelVerification p (raise (.point p) .isolated s)
    let s' := s'.setPoint p fun r =>
      { r with
        isolated := true, renew := false
        decoder := if s.pointType p = .legacyCoded then .empty else r.decoder
        armed := if s.pointType p = .callPoint then false else r.armed }
    (pointFollows p s.rgu.own s', .accepted)

/-- RESTORE_POINT at the Point Unit (R57). -/
def restorePoint (p : Point) (s : State) : State × Answer :=
  if !(s.point p).isolated then (s, .state)
  else
    let s' := clear (.point p) .detectorUnstable (clear (.point p) .isolated s)
    let s' := s'.setPoint p fun r => { r with isolated := false, unconfirmed := 0, lastGood := none, filterFrom := s.now }
    (pointFollows p s.rgu.own s', .accepted)

/-! ## The rebuild at an epoch change (R58) -/

/-- A point leaves FIRE, and ALARM clears (R44). -/
def leaveFire (p : Point) (s : State) : State :=
  if (s.point p).logical = .fire then
    clear (.point p) .alarm (s.setPoint p fun r => { r with logical := .normal })
  else s

/-- A LEGACY_CODED point's decoder restarts (R64). -/
def restartDecoder (p : Point) (s : State) : State :=
  clear (.point p) .codeUnknown
    (if (s.point p).isolated then s
     else s.setDecoder p fun d => d.begin ((s.point p).reading == .active) s.now)

/-- A point that offers again where it senses ACTIVE. -/
def offerAgain (p : Point) (s : State) : State :=
  let s := leaveFire p s
  if (s.point p).senses then offerPoint p s else s

/-- Verification cancelled by the epoch: the next good reading counts as a change from NORMAL (R50, R58). -/
def cancelByEpoch (p : Point) (s : State) : State :=
  (cancelVerification p s).setPoint p fun r => { r with renew := true, filterFrom := s.now }

/-- A DETECTOR or LOBBY point with verification at an adoption (R58). -/
def rebuildVerified (p : Point) (s : State) : State :=
  match (s.point p).logical with
  | .fire => offerAgain p s
  | .preAlarm | .confirming => cancelByEpoch p s
  | .normal | .active => s

/-- One point at an adoption (R58). On a coded point CODE_UNKNOWN clears before ALARM, so that an entry that nobody has
acknowledged stays with its FIRE class (R191; DEDUCED, log entry 44). -/
def rebuildPoint (p : Point) (s : State) : State :=
  if (s.point p).isolated then
    if s.pointType p = .legacyCoded then leaveFire p (restartDecoder p s) else leaveFire p s
  else match s.pointType p with
    | .detector _ | .lobby _ => if s.ssu.config.points[p].verification then rebuildVerified p s else offerAgain p s
    | .stairSmoke _ | .machineRoom _ | .hoistway _ | .legacyGeneral => offerAgain p s
    | .callPoint => leaveFire p s
    | .legacyCoded => leaveFire p (restartDecoder p s)
    | _ => s

/-- Every cut ends at once (R50): the filters of its points start afresh; the points in PRE_ALARM stay so until their
verification is cancelled. -/
def endCuts (s : State) : State :=
  { s with
    ptu :=
      { points := each s.ptu.points fun p r => if s.blind p then { r with filterFrom := s.now } else r
        cuts := Vector.replicate 4 none } }

/-- The rebuild of the own set (R58), in the order IN0 to IN31. -/
def rebuildPoints (s : State) : State :=
  reportBanks ((List.finRange 32).foldl (fun s p => rebuildPoint p s) (endCuts s))

end Sys2Proof.Machine
end

