-- ==== Sys2Proof/Machine/Bulletins.lean ====
section
/-! DEFINITION. The Bulletin Dispatcher and Roster (chapter 2), the adoption of an epoch (R88), and what every command
ends with: the LIFT, STATUS and own roster record that follow what it changed. -/

namespace Sys2Proof.Machine

/-! ## The station's own STATUS (section 2.3) -/

/-- The content of the station's STATUS, composed now (R29). -/
def State.statusReport (s : State) : StatusReport where
  epoch := s.rgu.epoch
  floor := s.ownFloor
  phase := s.rgu.phase
  supply := s.ssu.supply
  digest := s.ssu.config.digest
  loads := Vector.ofFn fun st => if s.hasStair st then s.sau.load st else 0
  logged := Vector.ofFn fun st => s.hasStair st && s.sau.status[st] == .smokeLogged
  released := s.sau.released
  contributions := s.rgu.own

/-- The STATUS offered (R28). -/
def offerStatus (s : State) : State := (offer (.status s.statusReport) s).1

/-- What a queue entry would send last: its pending content, or else its content. -/
def TxEntry.latest (e : TxEntry) : Content := e.pending.getD e.content

/-- A queued STATUS is composed again where a value of it has changed (R29). -/
def followStatus (s : State) : State :=
  match s.lif.inSlot .status with
  | some e => if e.latest = .status s.statusReport then s else offerStatus s
  | none => s

/-- A roster record changed. -/
def State.setRecord (s : State) (n : Sender) (r : Option RosterRecord) : State :=
  s.setBdr fun b => { b with roster := b.roster.set n r }

/-- The own roster record follows the station's own values (R31). -/
def followOwnRecord (s : State) : State :=
  match s.ssu.station with
  | some n =>
    match s.bdr.roster[n] with
    | some r =>
      s.setRecord n (some
        { r with floor := s.ownFloor, lastEpoch := some s.rgu.epoch, phase := some s.rgu.phase, supply := some s.ssu.supply })
    | none => s
  | none => s

/-- What a command ends with, once the station has entered JOINING: the LIFT of each bank that it changed (R144), a
queued STATUS (R29) and the own roster record (R31). -/
def finish (before s : State) : State :=
  if before.entered ∧ s.entered then followOwnRecord (followStatus (offerChangedLifts before s)) else s

/-! ## The roster (section 2.4) -/

/-- A record at its creation (R30). -/
def RosterRecord.fresh : RosterRecord where
  floor := none
  presence := .present
  silent := 0
  lastEpoch := none
  digestAgrees := true
  phase := none
  supply := none

/-- The station is this one: bulletins do not update its record (R31). -/
def State.isOwn (s : State) (n : Sender) : Bool := s.ssu.station == some n

/-- Step 1 of the dispatch: the sender's record created or refreshed (R30, R32). -/
def refreshRecord (n : Sender) (s : State) : State :=
  if s.isOwn n then s
  else match s.bdr.roster[n] with
    | none => s.setRecord n (some .fresh)
    | some r =>
      clear (.station n) .stationLost (s.setRecord n (some { r with silent := 0, presence := .present }))

/-- A field of another station's record changed. -/
def changeRecord (n : Sender) (f : RosterRecord → RosterRecord) (s : State) : State :=
  if s.isOwn n then s else s.setRecord n (s.bdr.roster[n].map f)

/-- The last epoch carried (R32). -/
def noteEpoch (n : Sender) (epoch : Option Nat) (s : State) : State :=
  match epoch with
  | some e => changeRecord n (fun r => { r with lastEpoch := some e }) s
  | none => s

/-- The fields that a STATUS reports, but for the own record (R31, R32), and CONFIG_DIFFER on its sender (R34), ahead of
FLOOR_DUPLICATE where the floor changes too (DESIGN CHOICE, log entry 36). -/
def noteStatus (n : Sender) (r : StatusReport) (s : State) : State :=
  let agree := r.digest == s.ssu.config.digest
  keep (!agree) (.station n) .configDiffer (changeRecord n (fun x =>
    { x with floor := r.floor, phase := some r.phase, supply := some r.supply, digestAgrees := agree }) s)

/-- The floor that a PRESENT record names. -/
def State.presentFloor (s : State) (n : Sender) : Option Floor :=
  match s.bdr.roster[n] with
  | some r => if r.presence = .present then r.floor else none
  | none => none

/-- A PRESENT record names a floor that another PRESENT record names (R36). -/
def State.duplicated (s : State) (n : Sender) : Bool :=
  match s.presentFloor n with
  | some f => (List.finRange 63).any fun m => m != n && s.presentFloor m == some f
  | none => false

/-- FLOOR_DUPLICATE examined on every record (R36). -/
def examineFloors (s : State) : State :=
  (List.finRange 63).foldl (fun s n =>
    if s.bdr.roster[n].isSome then keep (s.duplicated n) (.station n) .floorDuplicate s else s) s

/-- A bulletin that R23 rejects. -/
def reject (n : Sender) (s : State) : State :=
  raise (.station n) .bulletinRejected (s.setBdr fun b => { b with rejectedSeen := b.rejectedSeen.set n true })

/-! ## Adoption (R87, R88) -/

/-- The stored sets emptied, and every FIRE_REPORTED cleared (R68, R69). -/
def emptyStored (s : State) : State :=
  (List.finRange 63).foldl (fun s n => clear (.station n) .fireReported s)
    (s.setRgu fun r => { r with stored := Vector.replicate 63 none })

/-- The own set emptied, and every CONTRIBUTION_FULL cleared (R65, R67). -/
def emptyOwn (s : State) : State :=
  (List.finRange 32).foldl (fun s p => clear (.point p) .contributionFull s) (s.setRgu fun r => { r with own := [] })

/-- A queued REGIME_RESET whose new epoch is not larger than the adopted one is withdrawn (R88, step 8). -/
def withdrawReset (s : State) : State :=
  match s.lif.inSlot .regimeReset with
  | some e => if (e.content.epoch?.getD 0) ≤ s.rgu.epoch then (withdraw .regimeReset s).1 else s
  | none => s

/-- Steps 1 to 7 of the adoption of an epoch (R88), with the STATUS that causes it where one does. What the derivation of
step 7 changes for the Lift Unit is gathered with what follows step 10 (DESIGN CHOICE, log entry 49). -/
def adoptView (epoch : Nat) (cause : Option StatusReport) (s : State) : State :=
  let s := newEpoch (emptyOwn (emptyStored (s.setRgu fun r => { r with epoch := epoch })))
  let s := match cause with
    | some r => takeView r s
    | none => s
  deriveMap true (endSilence (rebuildPoints s))

/-- Steps 8 to 11 of the adoption (R88), with the phase before it. -/
def adoptPhase (before : Phase) (s : State) : State :=
  let s := withdrawReset (withdrawOldWork (withdraw .condition s).1)
  let s := evaluatePhase (s.setPhase .normal .none)
  let s := playEpoch before (clearLatches (leavesAtEpoch s))
  let s := if s.rgu.own = [] then s else (offer s.conditionContent s).1
  offerStatus s

/-- The adoption of a larger epoch (R88). -/
def adopt (epoch : Nat) (cause : Option StatusReport) (s : State) : State :=
  adoptPhase s.rgu.phase (adoptView epoch cause s)

/-! ## Dispatch (R22) -/

/-- The outcome of the epoch comparison (R24). -/
inductive EpochVerdict
  | stale | discard | handOn | adopted (epoch : Nat)
deriving DecidableEq, Repr

/-- The epoch comparison of a content against the own epoch (R24). -/
def compareEpoch (own : Nat) (c : Content) : EpochVerdict :=
  match c.epoch? with
  | none => .handOn
  | some e =>
    if e < own then .stale
    else if own < e then .adopted e
    else match c with
      | .regimeReset _ _ => .discard
      | _ => .handOn

/-- A COMMAND handed to its owner (R25). -/
def commandHeard (cmd : Command) (s : State) : State :=
  match cmd with
  | .silenceAlert => silenceHeard s
  | .unlockStairs => unlockHeard s
  | .manualRecall b => manualHeard b true s
  | .cancelRecall b => manualHeard b false s

/-- A STAIR handed to the Stair Admission Unit, and the Leaf Controller told of a change (R91). -/
def stairContent (st : Stair) (status : StairStatus) (s : State) : State :=
  let s' := stairHeard st status s
  if s'.sau.status = s.sau.status then s' else leavesFollow s'

/-- Step 4: the content handed to its owner (R25, R26). `gather` says that the bulletin caused an adoption. -/
def handOn (c : Content) (sender : Sender) (sentHere gather : Bool) (s : State) : State :=
  match c with
  | .condition _ l => if sentHere then s else storeSet gather sender l s
  | .stair _ st status => stairContent st status s
  | .release r => releaseHeard r s
  | .regimeReset _ _ => s
  | .command cmd _ => commandHeard cmd s
  | .pageStart scope => pageStartHeard sender scope sentHere s
  | .pageStop => pageStopHeard sender sentHere s
  | .lift _ => s
  | .status r => if sentHere then s else storeSet gather sender r.contributions s
  | .test _ => s

/-- Step 5: the roster fields and the lift summary (R32, R34, R37). -/
def noteContent (c : Content) (sender : Sender) (sentHere : Bool) (s : State) : State :=
  match c with
  | .status r => if sentHere then s else noteStatus sender r s
  | .lift l =>
    s.setBdr fun b =>
      { b with summary := b.summary.set l.bank (some { landing := l.landing, cause := l.cause, cars := l.cars, sender := sender }) }
  | _ => s

/-- JOINING ends (R210). -/
def endJoining (s : State) : State := leavesFollow (evaluate (s.setSsu fun u => { u with join := .joined }))

/-- A STATUS of another station ends JOINING; its view is taken unless it caused an adoption (R210). -/
def joinFrom (c : Content) (sentHere adopted : Bool) (s : State) : State :=
  match c with
  | .status r =>
    if s.ssu.join = .joining ∧ !sentHere then
      endJoining (evaluate (if adopted then s else takeView r s))
    else evaluate s
  | _ => evaluate s

/-- A content that R24 lets through, from step 4 to the end of the bulletin's handling; step 5 can change a floor of the
roster (R36), whose duplicates are examined once the other fields have been noted (DESIGN CHOICE, log entry 36). -/
def handle (c : Content) (sender : Sender) (sentHere adopted : Bool) (s : State) : State :=
  let s := noteContent c sender sentHere (handOn c sender sentHere adopted s)
  let s := joinFrom c sentHere adopted (examineFloors s)
  if adopted then liftsEpochEnd s else s

/-- A content handled from step 3 on (R22, R24). -/
def dispatchContent (c : Content) (sender : Sender) (sentHere : Bool) (s : State) : State :=
  match compareEpoch s.rgu.epoch c with
  | .stale => evaluate (if sentHere then s else offerStatus s)
  | .discard => evaluate s
  | .handOn => handle c sender sentHere false s
  | .adopted e =>
    let cause := match c with
      | .status r => some r
      | _ => none
    handle c sender sentHere true (adopt e cause s)

/-- The dispatch of a good bulletin (R22). Step 1 can change a presence (R36); a roster floor that it brings back is
taken into the bulletin's one evaluation of the phase (DEDUCED, log entry 36). -/
def dispatch (h : Heard) (sentHere : Bool) (s : State) : State :=
  let s := examineFloors (refreshRecord h.sender s)
  match readPayload h.kind h.payload with
  | none => evaluate (reject h.sender s)
  | some c => dispatchContent c h.sender sentHere (noteEpoch h.sender c.epoch? s)

/-! ## The refresh expiry (R27, R33) -/

/-- One record aged; the flag says that it became LOST. -/
def RosterRecord.age (r : RosterRecord) : RosterRecord × Bool :=
  match r.presence with
  | .lost => (r, false)
  | .present =>
    if r.silent + 1 < 3 then ({ r with silent := r.silent + 1 }, false)
    else ({ r with silent := 3, presence := .lost }, true)

/-- A station's record aged, and its loss passed on (R33, R177). The floors are examined once every record has aged
(DEDUCED, log entry 36). -/
def ageRecord (n : Sender) (s : State) : State :=
  if s.isOwn n then s
  else match s.bdr.roster[n] with
    | none => s
    | some r =>
      let s := s.setRecord n (some r.age.1)
      if r.age.2 then pageOwnerLost n (raise (.station n) .stationLost s) else s

/-- The roster aged (R33). -/
def ageRoster (s : State) : State := (List.finRange 63).foldl (fun s n => ageRecord n s) s

/-- A floor has left the roster floors since `before` (R35). -/
def State.floorLeft (s before : State) : Bool :=
  (List.finRange 63).any fun n =>
    match before.presentFloor n with
    | some f => !s.rosterFloor f
    | none => false

/-- BULLETIN_REJECTED examined (R23). -/
def examineRejected (s : State) : State :=
  let seen := s.bdr.rejectedSeen
  (List.finRange 63).foldl (fun s n => if seen[n] then s else clear (.station n) .bulletinRejected s)
    (s.setBdr fun b => { b with rejectedSeen := Vector.replicate 63 false })

end Sys2Proof.Machine
end

