-- ==== Sys2Proof/Machine/Queries.lean ====
section
/-! DEFINITION. The answer data of the console queries (section 11.5, R202, R203), field by field. -/

namespace Sys2Proof.Machine

/-! ## Encodings (section 11.5) -/

/-- A flag: 0 for no, 1 for yes. -/
def flagByte (b : Bool) : Byte := if b then 1 else 0

/-- A list: a count byte, then its items. -/
def listBytes {α : Type} (f : α → List Byte) (l : List α) : List Byte := oneByte l.length :: l.flatMap f

/-- An optional field of one byte; 255 where absent. -/
def optByte {α : Type} (f : α → Nat) : Option α → Byte
  | some a => oneByte (f a)
  | none => 255

/-- An optional field of two bytes; 65535 where absent. -/
def optTwo : Option Nat → List Byte
  | some n => twoBytes n
  | none => twoBytes 65535

/-- A time in four bytes; beyond their range it is a free value (log entry 39). -/
def timeBytes (n : Nat) : List Byte :=
  fourBytes (if n < 4294967296 then n else (Config.answerTimeBeyondRange n).toNat)

/-- An optional time; 255 in four bytes where absent (log entry 14). -/
def optTime : Option Nat → List Byte
  | some n => timeBytes n
  | none => timeBytes 255

/-- Seconds that a timer has run since a moment; 0 if stopped (R202; for a recall timer log entry 14). -/
def State.run (s : State) : Option Time → List Byte
  | some t => timeBytes (wholeSeconds (s.now - t))
  | none => timeBytes 0

/-- Seconds from the last reset to a moment, for a field that is a time. -/
def State.clockOf (s : State) (t : Option Time) : List Byte := optTime (t.map fun t => wholeSeconds (t - s.startedAt))

/-! ## Named values, by their position in the list of their rule -/

def joinCode : Join → Nat
  | .starting => 0 | .joining => 1 | .joined => 2

def modeCode : ClaimMode → Nat
  | .none => 0 | .forced => 1 | .nonForced => 2

/-- R98: FORCED, NON_FORCED. -/
def claimModeCode : ClaimSort → Nat
  | .forced => 0 | .nonForced => 1

def claimCode : ClaimState → Nat
  | .none => 0 | .queued => 1 | .fixed => 2

def statusCode : StairStatus → Nat
  | .inService => 0 | .smokeLogged => 1

def hatCode : Hat → Nat
  | .off => 0 | .steady => 1 | .flashing => 2

def outputCode : RecallOutput → Nat
  | .none => 0 | .main => 1 | .alt => 2

def tableCode : TableState → Nat
  | .unloaded => 0 | .good => 1 | .degraded => 2 | .bad => 3

def roleCode : Role → Nat
  | .evacuate => 0 | .alert => 1 | .allClear => 2 | .test => 3 | .stairChanged => 4 | .noStair => 5

def walkCauseCode : WalkCause → Nat
  | .depth => 0 | .emptyEntry => 1 | .tooLong => 2 | .clipRange => 3 | .noFloor => 4

def programCode : Program → Nat
  | .none => 0 | .alert => 1 | .evacuate => 2

def oneShotCode : OneShot → Nat
  | .allClear => 0 | .test => 1

def playbackCode : Playback → Nat
  | .silent => 0 | .playing => 1 | .gap => 2 | .paged => 3

def pageEndCode : PageEnd → Nat
  | .stop => 0 | .ownerLost => 1 | .timeout => 2 | .superseded => 3

def ownRequestCode : OwnRequest → Nat
  | .none => 0 | .startPending => 1 | .late => 2 | .owned => 3 | .stopPending => 4 | .stopLate => 5

/-- R179: UNTAKEN, NORMAL, OPEN, SHORT. -/
def circuitCode : Option CircuitSense → Nat
  | none => 0 | some .normal => 1 | some .openLoop => 2 | some .short => 3

def readingCode : Reading → Nat
  | .untaken => 0 | .normal => 1 | .active => 2 | .openLoop => 3 | .short => 4

/-- R41: the last good reading is NORMAL or ACTIVE. -/
def lastGoodCode (active : Bool) : Nat := if active then 1 else 0

/-- R128: SET, CLEAR, for the fire latch and the manual flag (log entry 14). -/
def setCode (v : Bool) : Nat := if v then 0 else 1

/-- Logical states of an alarm type and of a passing type, each by its own list (R44). -/
def logicalCode : Logical → Nat
  | .normal => 0 | .preAlarm => 1 | .confirming => 2 | .fire => 3 | .active => 1

/-- Logical states of the types that have NORMAL and FIRE alone (R44). -/
def logicalCodeOf (type : PointType) (l : Logical) : Nat :=
  match type, l with
  | .detector _, l | .lobby _, l => logicalCode l
  | _, .fire => 1
  | _, l => logicalCode l

def decoderCode : DecoderState → Nat
  | .quiet => 0 | .pulse => 1 | .gap => 2 | .spoiled => 3

def eventStateCode : EventState → Nat
  | .activeUnack => 0 | .activeAck => 1 | .clearedUnack => 2

/-- Point types in the order of R41. -/
def pointTypeCode : PointType → Nat
  | .detector _ => 0 | .callPoint => 1 | .lobby _ => 2 | .stairSmoke _ => 3 | .machineRoom _ => 4 | .hoistway _ => 5
  | .legacyCoded => 6 | .legacyGeneral => 7 | .leafPosition _ => 8 | .lockFeedback _ => 9 | .carAvailable _ _ => 10
  | .carParked _ _ => 11 | .carKey _ _ => 12 | .mainsFail => 13 | .batteryLow => 14 | .level2Key => 15
  | .level3Key => 16 | .level4Jumper => 17

/-- The parameter of a point type: 255 where it has none (log entry 14). -/
def parameterBytes : PointType → List Byte
  | .detector g | .lobby g => [oneByte (number g)]
  | .stairSmoke st | .leafPosition st | .lockFeedback st => [oneByte (number st)]
  | .machineRoom b | .hoistway b => [oneByte (number b)]
  | .carAvailable b c | .carParked b c | .carKey b c => [oneByte (number b), oneByte (number c)]
  | .callPoint | .legacyCoded | .legacyGeneral | .mainsFail | .batteryLow | .level2Key | .level3Key
  | .level4Jumper => [255]

/-! ## Section 0 (R202) -/

/-- Item 0. -/
def viewStation (s : State) : List Byte :=
  [match s.ssu.station with | some n => oneByte (number n) | none => 0, optByte Fin.val s.ownFloor, oneByte (joinCode s.ssu.join)]
    ++ twoBytes s.rgu.epoch
    ++ [oneByte (phaseCode s.rgu.phase), oneByte (modeCode s.rgu.mode), flagByte s.rgu.silence,
        oneByte (supplyCode s.ssu.supply)]
    ++ wordBytes s.ssu.config.digest
    ++ [oneByte s.level, oneByte s.cpt.commands, flagByte (s.lif.inSlot .regimeReset).isSome, oneByte s.cpt.errors,
        oneByte s.cpt.dropped]

/-- The override field of a leaf (R112): NONE, UNLOCK_ALL, SECURITY_LOCK, SECURITY_FREE. -/
def overrideCode (unlockAll : Bool) (v : Security) : Nat :=
  if unlockAll then 1 else match v with
    | .none => 0 | .lock => 2 | .free => 3

/-- A leaf record, in the order of R112. -/
def leafBytes (s : State) (st : Stair) (l : LeafRecord) : List Byte :=
  [oneByte (number st), if l.lock = .locked then 0 else 1, if l.hold = .held then 0 else 1,
    optByte (fun f => if f = Feedback.following then 0 else 1) l.feedback]
    ++ s.run l.feedbackFrom
    ++ [optByte (fun p => if p = LeafPosition.closed then 0 else 1) l.position]
    ++ s.run l.closingFrom
    ++ [oneByte (overrideCode s.lfc.unlockAll l.security)]

/-- Item 1. -/
def viewLeaves (s : State) : List Byte :=
  flagByte s.lfc.unlockAll ::
    listBytes (fun x => leafBytes s x.1 x.2) ((List.finRange 4).filterMap fun st => s.lfc.leaves[st].map fun l => (st, l))

/-- The fields of a car, in the order of R145; a stopped recall timer shows 0 (log entry 14). -/
def carBytes (s : State) (c : CarRecord) : List Byte :=
  [oneByte (carStateCode c.state), oneByte (outputCode c.output)] ++ s.run c.timer
    ++ [flagByte c.available, flagByte c.parked, flagByte c.key]

/-- Items 2 and 3: an empty list where the station has no such bank. The cars stand as a list, a count byte ahead of them,
which R145 and R202 do not call them (DESIGN CHOICE, log entry 14). -/
def viewBank (b : Bank) (s : State) : List Byte :=
  match s.ssu.config.banks[b], s.lfu.banks[b] with
  | some cfg, some r =>
    [oneByte (landingCode r.landing), oneByte (recallCauseCode r.cause), oneByte (setCode r.fireLatch),
      oneByte (setCode r.manual), flagByte r.alarm, oneByte (hatCode r.hat)]
      ++ listBytes (fun c => carBytes s r.cars[c]) ((List.finRange 4).filter (hasCar cfg))
  | _, _ => [0]

/-- A list of roles, each by its position in R151 (log entry 14). -/
def rolesBytes (l : List Role) : List Byte := listBytes (fun r => [oneByte (roleCode r)]) l

/-- A list of role numbers 1 to 6 (R149). -/
def roleNumbers (l : List Role) : List Byte := listBytes (fun r => [oneByte (roleCode r + 1)]) l

/-- Item 4. -/
def viewTable (s : State) : List Byte :=
  oneByte (tableCode s.acu.state) :: twoBytes s.acu.invalid ++ roleNumbers s.acu.trialFailures
    ++ match s.acu.failure with
      | some f =>
        rolesBytes f.roles ++ [oneByte (walkCauseCode f.failure.cause), oneByte f.failure.entry.val, oneByte f.failure.level]
          ++ timeBytes f.seconds
      | none => [255]

/-- The ROTOR entries among 64 entries from `first`. -/
def rotors (first : Nat) (s : State) : List (Nat × Nat) :=
  (List.finRange 64).filterMap fun i =>
    match ofIndex 256 (first + i.val) with
    | some e =>
      match s.acu.table[e] with
      | .rotor _ position => some (e.val, position)
      | _ => none
    | none => none

/-- Items 5 to 8. -/
def viewRotors (first : Nat) (s : State) : List Byte :=
  listBytes (fun x => [oneByte x.1, oneByte x.2]) (rotors first s)

/-- The clip in play; the code of TONE is a free value (log entry 9). -/
def clipBytes : Option Clip → List Byte
  | some (.clip n) => twoBytes n
  | some .tone => wordBytes Config.toneAnswerCode
  | none => twoBytes 65535

/-- Item 9. -/
def viewPlayback (s : State) : List Byte :=
  oneByte (programCode s.pbu.program)
    :: listBytes (fun o => [oneByte (oneShotCode o)]) s.pbu.oneShots
    ++ [oneByte (playbackCode s.pbu.playback)]
    ++ listBytes (fun a : Announcement => rolesBytes a.roles ++ [oneByte a.clips.length]) s.pbu.queue
    ++ clipBytes s.pbu.inPlay
    ++ listBytes (fun st : Stair => [oneByte (number st)]) s.pbu.lastNamed
    ++ twoBytes s.pbu.underruns ++ twoBytes s.pbu.faulted.length

/-- The scope of a page: ALL, or the set of floors; 255 where no page is active (log entry 14). -/
def pageScopeBytes : Option PageScope → List Byte
  | some .all => scopeBytes .all
  | some (.floors f) => scopeBytes (.floors f)
  | none => [255]

/-- Item 10. -/
def viewPage (s : State) : List Byte :=
  [if s.pbu.page.isSome then 1 else 0, optByte number (s.pbu.page.map (·.owner))]
    ++ pageScopeBytes (s.pbu.page.map (·.scope))
    ++ [flagByte s.pbu.inScope]
    ++ s.clockOf (s.pbu.page.map (·.expiry))
    ++ [optByte pageEndCode s.pbu.lastEnd, oneByte (ownRequestCode s.pbu.ownRequest)]
    ++ listBytes (fun n : Circuit => [oneByte (circuitCode s.pbu.circuits[n]), flagByte (s.circuitSelected n)])
        ((List.finRange 4).filter s.hasCircuit)

/-- A delegation entry (R204), its fixed parameters as a list; one that is not present has no code, no parameters and no
level (DESIGN CHOICE, log entry 14). -/
def delegationBytes : Option Delegation → List Byte
  | some d => 1 :: d.code :: oneByte d.params.length :: d.params ++ [oneByte d.level]
  | none => [0, 255, 0, 255]

/-- Item 11. -/
def viewDelegation (s : State) : List Byte := listBytes delegationBytes s.cpt.delegation.toList

/-- A code as a list of digits; 255 where absent (DESIGN CHOICE, log entry 14). -/
def codeBytes : Option (List Nat) → List Byte
  | some l => listBytes (fun n => [oneByte n]) l
  | none => [255]

/-- The configuration has the stair, the bank or the car that a point's type names. -/
def State.hasFunction (s : State) : PointType → Bool
  | .stairSmoke st | .leafPosition st | .lockFeedback st => s.hasStair st
  | .machineRoom b | .hoistway b => s.ssu.config.banks[b].isSome
  | .carAvailable b c | .carParked b c | .carKey b c => s.hasCar b c
  | .detector _ | .callPoint | .lobby _ | .legacyCoded | .legacyGeneral | .mainsFail | .batteryLow | .level2Key
  | .level3Key | .level4Jumper => true

/-- The type fields of a point: its type and its parameter. -/
def State.pointTypeBytes (s : State) (p : Point) : List Byte :=
  oneByte (pointTypeCode (s.pointType p)) :: parameterBytes (s.pointType p)

/-- The fields of R41 beside the type and the parameter. -/
def State.pointFieldBytes (s : State) (p : Point) : List Byte :=
  let type := s.pointType p
  let cfg := s.ssu.config.points[p]
  let r := s.point p
  [flagByte cfg.supervised, flagByte cfg.verification, oneByte (readingCode r.reading), optByte lastGoodCode r.lastGood,
    flagByte r.isolated, oneByte (logicalCodeOf type r.logical), oneByte r.unconfirmed, flagByte r.armed]
    ++ s.clockOf r.windowExpiry
    ++ if type = .legacyCoded then
        oneByte (decoderCode r.decoder.state) :: codeBytes r.decoder.candidate ++ codeBytes r.decoder.lastDecoded
          ++ codeBytes r.decoder.lastUnknown
      else []

/-- Items 16 to 47; the type fields alone where the configuration does not have the function (log entry 14). -/
def viewPoint (p : Point) (s : State) : List Byte :=
  if s.hasFunction (s.pointType p) then s.pointTypeBytes p ++ s.pointFieldBytes p else s.pointTypeBytes p

/-- The items of section 0 (R202). -/
def viewItemBytes (item : Nat) (s : State) : List Byte :=
  match item with
  | 0 => viewStation s
  | 1 => viewLeaves s
  | 2 => viewBank 0 s
  | 3 => viewBank 1 s
  | 4 => viewTable s
  | 5 => viewRotors 0 s
  | 6 => viewRotors 64 s
  | 7 => viewRotors 128 s
  | 8 => viewRotors 192 s
  | 9 => viewPlayback s
  | 10 => viewPage s
  | 11 => viewDelegation s
  | n => match ofIndex 32 (n - 16) with
    | some p => viewPoint p s
    | none => []

/-! ## Sections 1 to 3 (R202) -/

/-- Causes as one byte, bit c for the cause of code c. -/
def causesByte (l : List Cause) : Byte := (flagsOf (l.map causeCode)).setWidth 8

/-- Station numbers as floor flags. -/
def stationFlags (l : List Sender) : List Byte := flagBytes (flagsOf (l.map number))

/-- Section 1, from a floor upward: at most 22 floors. -/
def viewMap (first : Nat) (s : State) : List Byte :=
  let m := s.rgu.map
  [flagByte m.general, causesByte m.generalCauses] ++ stationFlags m.generalReporting
    ++ listBytes (fun r : FireFloor => [oneByte r.floor.val, flagByte r.lobby, causesByte r.causes] ++ stationFlags r.reporting)
        ((m.fires.filter fun r => first ≤ r.floor.val).take 22)

/-- A roster record, in the order of R30. -/
def recordBytes (n : Sender) (r : RosterRecord) : List Byte :=
  [oneByte (number n), optByte Fin.val r.floor, if r.presence = .present then 0 else 1, oneByte r.silent]
    ++ optTwo r.lastEpoch
    ++ [if r.digestAgrees then 0 else 1, optByte phaseCode r.phase, optByte supplyCode r.supply]

/-- Section 2, from a station number upward: at most 28 records. -/
def viewRoster (first : Nat) (s : State) : List Byte :=
  listBytes (fun x => recordBytes x.1 x.2)
    (((List.finRange 63).filterMap fun n => if first ≤ number n then s.bdr.roster[n].map fun r => (n, r) else none).take 28)

/-- A lift summary entry (R37), its cars as a list, with its sender and the sender's presence (DESIGN CHOICE, log entry
14). -/
def summaryBytes (s : State) : Option LiftSummary → List Byte
  | some l =>
    [oneByte (landingCode l.landing), oneByte (recallCauseCode l.cause)]
      ++ listBytes (fun c => [oneByte (carStateCode c)]) l.cars
      ++ [oneByte (number l.sender), optByte (fun r : RosterRecord => if r.presence = .present then 0 else 1) s.bdr.roster[l.sender]]
  | none => [255, 255, 0, 255, 255]

/-- Section 3. -/
def viewSummary (s : State) : List Byte := summaryBytes s s.bdr.summary[0] ++ summaryBytes s s.bdr.summary[1]

/-- The answer of QUERY_VIEW (R202). -/
def viewBytes (view : Fin 4) (item : Nat) (s : State) : List Byte :=
  match view with
  | 0 => viewItemBytes item s
  | 1 => viewMap item s
  | 2 => viewRoster item s
  | 3 => viewSummary s

/-! ## QUERY_EVENTS (R187, R203) -/

/-- One entry comes before another in presentation order (R187). -/
def EventEntry.before (a b : EventEntry) : Bool :=
  let ka := eventClassCode a.cls
  let kb := eventClassCode b.cls
  ka < kb || (ka == kb && (a.first < b.first || (a.first == b.first && sourceNumber a.source ≤ sourceNumber b.source)))

/-- An entry put at its place in presentation order. -/
def presentInto (e : EventEntry) : List EventEntry → List EventEntry
  | [] => [e]
  | x :: rest => if e.before x then e :: x :: rest else x :: presentInto e rest

/-- The entries in presentation order (R187). -/
def presentation (l : List EventEntry) : List EventEntry := l.foldr presentInto []

/-- An entry of the answer; its active conditions stand in the order in which they were raised (log entry 14). -/
def eventBytes (e : EventEntry) : List Byte :=
  [oneByte (sourceNumber e.source), oneByte (eventClassCode e.cls), oneByte (eventStateCode e.state)]
    ++ fourBytes e.first ++ [oneByte e.count]
    ++ listBytes (fun c : Condition => [oneByte c.code]) e.active
    ++ listBytes (fun c : Condition => [oneByte c.code]) e.seen

/-- The data of an answer never exceed 254 bytes (section 11.5). -/
def answerLimit : Nat := 254

/-- Entries while they fit whole in what is left. -/
def fitting (left : Nat) : List EventEntry → List EventEntry
  | [] => []
  | e :: rest =>
    let n := (eventBytes e).length
    if n ≤ left then e :: fitting (left - n) rest else []

/-- How many entries meet a test. -/
def countEntries (s : State) (p : EventEntry → Bool) : Byte := oneByte (s.eva.entries.filter p).length

/-- The answer of QUERY_EVENTS (R203): 7 totals, the index and the count take 9 bytes. -/
def eventsBytes (first : Nat) (s : State) : List Byte :=
  (eventClasses.map fun k => countEntries s fun e => e.cls == k)
    ++ ([EventState.activeUnack, .activeAck, .clearedUnack].map fun k => countEntries s fun e => e.state == k)
    ++ oneByte first :: listBytes eventBytes (fitting (answerLimit - 9) ((presentation s.eva.entries).drop first))

/-! ## QUERY_STAIRS (R203) -/

/-- One stair (R203): its oldest records up to 17 stand as a list, a count byte ahead of them (DESIGN CHOICE, log entry
14). -/
def stairBytes (s : State) (st : Stair) : List Byte :=
  let q := s.sau.queues[st]
  oneByte (statusCode s.sau.status[st]) :: twoBytes s.ssu.config.capacity[st] ++ oneByte s.ssu.config.drain[st]
    :: twoBytes (queueLoad q) ++ oneByte q.length
    :: listBytes (fun r : QueueRecord => optByte Fin.val r.floor :: twoBytes r.persons) (q.take 17)

/-- The answer of QUERY_STAIRS (R203). -/
def stairsBytes (s : State) : List Byte :=
  flagBytes s.sau.released ++ listBytes (fun st : Stair => [oneByte (number st)]) s.sau.assigned
    ++ [oneByte (claimCode s.sau.claim.state), oneByte (claimModeCode s.sau.claim.mode), flagByte s.sau.claim.oldCopy]
    ++ ((List.finRange 4).filter s.hasStair).flatMap (stairBytes s)

end Sys2Proof.Machine
end

