-- ==== Sys2Proof/Machine/Line.lean ====
section
/-! DEFINITION. The Line Interface (chapter 1): the receiver, arbitration, errors, completion, fairness, and the refresh
expiry. -/

namespace Sys2Proof.Machine

/-! ## How every command runs -/

/-- A command taken `dt` bit times after the one before it, by a station that is not held in reset: its effect, and
what every command ends with. A station held in reset only keeps its clock (R206). -/
def run (dt : Nat) (f : State → State) (s : State) : Host.Outcome State Fault Refusal :=
  let s := s.after dt
  .next (if s.live then finish s (f s) else s)

/-- What comes about only once the station has entered JOINING: through STARTING no timer runs, no point is read, no
bulletin is offered and the port is not served (R206). -/
def runJoined (dt : Nat) (f : State → State) (s : State) : Host.Outcome State Fault Refusal :=
  run dt (fun s => if s.entered then f s else s) s

/-! ## The receiver (R2) -/

/-- A gap has been read: the line is idle, and the further gaps of R17 are counted from now. -/
def gapRead (s : State) : State :=
  match s.lif.rx, s.lif.lineIdle with
  | .seeking, _ | .discarding, _ | .idle, false => s.setLif fun l => { l with rx := .idle, lineIdle := true, holdFrom := some s.now }
  | .idle, true | .receiving, _ => s

/-- A dominant level read on an idle line (R2, R17). -/
def startBitRead (s : State) : State :=
  if s.lif.rx = .idle then s.setLif fun l => { l with rx := .receiving, lineIdle := false, holdFrom := none } else s

/-- RECEIVER_IDLE. -/
def execReceiverIdle (dt : Nat) (s : State) : Host.Outcome State Fault Refusal := run dt gapRead s

/-- START_BIT_READ. -/
def execStartBitRead (dt : Nat) (s : State) : Host.Outcome State Fault Refusal := run dt startBitRead s

/-! ## Starting a bulletin (R7) -/

/-- The entry that the transmitter may start now (R7). The line must be idle in the sense of R2 too: a gap has been read
since the last stop bit, although R3 returns the receiver to IDLE at that bit (DEDUCED, log entry 34). -/
def State.startable (s : State) : Option TxEntry :=
  match headEntry s.lif.queue with
  | some e =>
    if s.lif.tx = .ready ∧ s.lif.rx = .idle ∧ s.lif.lineIdle ∧ (!s.lif.held ∨ e.cls = .fire) ∧ (!s.lif.txFault ∨ s.lif.attemptOpen)
    then some e else none
  | none => none

/-- The transmitter starts the head entry (R7). -/
def transmitStart (s : State) : State :=
  match s.startable with
  | some e =>
    s.setLif fun l =>
      { l with
        queue := changeFirst (fun x => x == e) (fun x => { x with state := .arbitrating }) l.queue
        tx := .arbitrating, txFrom := s.now, rx := .receiving, lineIdle := false, holdFrom := none }
  | none => s

/-- TRANSMIT_START. -/
def execTransmitStart (dt : Nat) (s : State) : Host.Outcome State Fault Refusal := runJoined dt transmitStart s

/-! ## Reports to the block that offered a content (R10, R15) -/

/-- A content has been sent, with the content that is queued behind it. -/
def reportSent (c : Content) (pending : Option Content) (s : State) : State :=
  match c with
  | .release r => releaseSent r pending.isSome s
  | .stair _ st _ => stairSent st pending s
  | .command _ _ => s.setCpt fun p => { p with commands := p.commands - 1 }
  | _ => s

/-- The withdrawal of a content that stood on the line has taken effect after all (R15). -/
def reportGone (c : Content) (s : State) : State :=
  match c with
  | .release r =>
    match releaseGone r s with
    | (s, true) => claimGone s
    | (s, false) => evaluate s
  | .pageStart _ | .pageStop => pageEntryGone s
  | _ => s

/-- The open withdrawal of a content is answered TOO_LATE (R15). -/
def reportWon (c : Content) (s : State) : State :=
  match c with
  | .release r => evaluate (releaseWon r s)
  | _ => s

/-! ## Arbitration (R8, R14, R15, R18) -/

/-- A class one step more urgent (R18). -/
def promote : BulletinClass → BulletinClass
  | .routine => .status | .status => .regime | .regime => .regime | .fire => .fire

/-- A lost arbitration counted (R8, R18). -/
def TxEntry.lose (e : TxEntry) : TxEntry :=
  if e.losses + 1 < 16 then { e with losses := e.losses + 1 } else { e with losses := 0, cls := promote e.cls }

/-- The entry that has lost its arbitration byte: absent where it was withdrawn (R14, R15). -/
def TxEntry.afterLoss (e : TxEntry) : Option TxEntry :=
  match e.pending with
  | some c => some { e.lose with content := c, pending := none, losses := 0, state := .waiting, withdrawn := false }
  | none => if e.withdrawn then none else some { e.lose with state := .waiting }

/-- The entry on the line replaced, or removed, in place. -/
def replaceOnLine (e : Option TxEntry) (q : List TxEntry) : List TxEntry :=
  match e with
  | some x => changeFirst (fun y => y.state != .waiting) (fun _ => x) q
  | none => removeFirst (fun y => y.state != .waiting) q

/-- The arbitration byte is lost (R8). -/
def arbitrationLost (s : State) : State :=
  match s.lif.tx, s.lif.onLine with
  | .arbitrating, some e =>
    let s := s.setLif fun l => { l with tx := .ready, queue := replaceOnLine e.afterLoss l.queue }
    if e.withdrawn then reportGone e.content s else s
  | _, _ => s

/-- ARBITRATION_LOST. -/
def execArbitrationLost (dt : Nat) (s : State) : Host.Outcome State Fault Refusal := runJoined dt arbitrationLost s

/-- The arbitration byte is won (R8). -/
def arbitrationWon (s : State) : State :=
  match s.lif.tx, s.lif.onLine with
  | .arbitrating, some e =>
    let s := s.setLif fun l => { l with tx := .sending, queue := replaceOnLine (some { e with state := .sending }) l.queue }
    if e.withdrawn then reportWon e.content s else s
  | _, _ => s

/-- ARBITRATION_WON. -/
def execArbitrationWon (dt : Nat) (s : State) : Host.Outcome State Fault Refusal := runJoined dt arbitrationWon s

/-! ## Bit errors (R9, R11) -/

/-- The entry that a bit error has abandoned: absent where it was withdrawn (R9, R14, R15). -/
def TxEntry.afterAbandon (e : TxEntry) : Option TxEntry :=
  match e.pending with
  | some c => some { e with content := c, pending := none, abandons := min 8 (e.abandons + 1), state := .waiting, withdrawn := false }
  | none => if e.withdrawn then none else some { e with abandons := min 8 (e.abandons + 1), state := .waiting }

/-- The 8th abandonment of an entry, or a further one of an entry whose count stands at 8 (R11; DESIGN CHOICE for the
latter, log entry 35). -/
def faultTransmitter (s : State) : State :=
  raise (.internal .lineTx) .lineTx (s.setLif fun l => { l with txFault := true })

/-- A bit error (R9). -/
def bitError (s : State) : State :=
  match s.lif.onLine with
  | some e =>
    if s.lif.tx = .arbitrating ∨ s.lif.tx = .sending then
      let s := s.setLif fun l =>
        { l with tx := .breaking, breakFrom := s.now, attemptOpen := false, queue := replaceOnLine e.afterAbandon l.queue }
      let s := if 8 ≤ e.abandons + 1 then faultTransmitter s else s
      if e.withdrawn then reportGone e.content s else s
    else s
  | none => s

/-- BIT_ERROR. -/
def execBitError (dt : Nat) (s : State) : Host.Outcome State Fault Refusal := runJoined dt bitError s

/-- The error break has run its 12 bit times (R9). -/
def breakEnds (s : State) : State :=
  if s.lif.tx = .breaking ∧ s.reached (s.lif.breakFrom + breakTime) then s.setLif fun l => { l with tx := .ready } else s

/-- ERROR_BREAK_END. -/
def execErrorBreakEnd (dt : Nat) (s : State) : Host.Outcome State Fault Refusal := runJoined dt breakEnds s

/-! ## The end of a bulletin (R3 to R6, R10, R17, R20) -/

/-- The entry that joins anew with its pending content (R10). -/
def TxEntry.rejoin (e : TxEntry) (now : Time) : Option TxEntry := e.pending.map fun c => { newTxEntry c now with slot := e.slot, cls := e.slot.cls }

/-- The own transmission is complete (R10, R11). -/
def completeOwn (e : TxEntry) (s : State) : State :=
  let s := s.setLif fun l =>
    { l with
      tx := .ready, held := true, txFault := false, attemptOpen := false
      queue := replaceOnLine none l.queue ++ (e.rejoin s.now).toList }
  reportSent e.content e.pending (clear (.internal .lineTx) .lineTx s)

/-- The own receiver's verdict on the own TEST (R20). -/
def testVerdict (good : Bool) (s : State) : State :=
  if good then raise (.internal .lineRx) .checkTestFailed s
  else clear (.internal .lineRx) .checkTestFailed (raiseAndClear (.internal .lineRx) .checkTestPassed s)

/-- A failed bulletin counted (R6). -/
def countFailure (s : State) : State :=
  let n := min 255 (s.lif.failures + 1)
  let s := s.setLif fun l => { l with failures := n }
  if 8 ≤ n then raise (.internal .lineRx) .lineRxDegraded s else s

/-- A good bulletin that carries the own number and was not sent here (R5). -/
def noteDuplicate (h : Heard) (sentHere : Bool) (s : State) : State :=
  if s.isOwn h.sender ∧ !sentHere then
    raise (.station h.sender) .duplicateStation (s.setLif fun l => { l with duplicateSeen := true })
  else s

/-- A good bulletin at the receiver (R4, R5, R17); DUPLICATE_STATION is raised before the dispatch (DESIGN CHOICE, log
entry 41). -/
def goodBulletin (h : Heard) (sentHere : Bool) (s : State) : State :=
  let s := noteDuplicate h sentHere (if sentHere then s else s.setLif fun l => { l with held := false })
  if s.entered then dispatch h sentHere s else s

/-- The entry whose transmission completes with this bulletin, where the transmitter is SENDING (R4, R10). -/
def State.ownEntry (s : State) : Option TxEntry :=
  if s.lif.tx = .sending then s.lif.onLine else none

/-- A content that is a TEST. -/
def Content.isTest : Content → Bool
  | .test _ => true
  | _ => false

/-- A bulletin read to its last stop bit (R3, R10). The verdict on an own TEST is recorded before the failure is counted,
which may raise LINE_RX_DEGRADED on the same source (R6, R20; DESIGN CHOICE, log entry 41). -/
def bulletinComplete (bytes : List Byte) (s : State) : State :=
  let s := s.setLif fun l => { l with rx := .idle, lineIdle := false, holdFrom := none }
  let own := s.ownEntry
  let heard := judge bytes
  let s := match own with
    | some e =>
      let s := completeOwn e s
      if e.content.isTest then testVerdict heard.isSome s else s
    | none => s
  match heard with
  | some h => goodBulletin h own.isSome s
  | none =>
    let s := countFailure s
    if own.any (fun e => e.slot == .release) ∧ s.entered then evaluate s else s

/-- A bulletin in reception ends (R3). -/
def bulletinEnds (e : Ending) (s : State) : State :=
  if s.lif.rx = .receiving then
    match e with
    | .framing | .overLength => countFailure (s.setLif fun l => { l with rx := .discarding })
    | .truncated => countFailure (s.setLif fun l => { l with rx := .idle, lineIdle := true, holdFrom := some s.now })
    | .complete bytes => bulletinComplete bytes s
  else s

/-- BULLETIN_END. -/
def execBulletinEnd (dt : Nat) (e : Ending) (s : State) : Host.Outcome State Fault Refusal := run dt (bulletinEnds e) s

/-! ## The hold (R17) -/

/-- Three further gaps of idle line have ended. -/
def holdReleased (s : State) : State :=
  if s.lif.held ∧ s.lif.rx = .idle ∧ s.lif.lineIdle ∧ s.due (s.lif.holdFrom.map (· + holdGapTime)) then
    s.setLif fun l => { l with held := false }
  else s

/-- HOLD_GAP_RELEASE. -/
def execHoldGapRelease (dt : Nat) (s : State) : Host.Outcome State Fault Refusal := runJoined dt holdReleased s

/-! ## The refresh expiry (R27) -/

/-- The Line Interface at a refresh expiry (R5, R6, R11). -/
def refreshLine (s : State) : State :=
  let s := if s.lif.failures = 0 then clear (.internal .lineRx) .lineRxDegraded s else s
  let s := match s.ssu.station with
    | some n => if s.lif.duplicateSeen then s else clear (.station n) .duplicateStation s
    | none => s
  s.setLif fun l =>
    { l with failures := 0, duplicateSeen := false, attemptOpen := l.attemptOpen || (l.txFault && !l.queue.isEmpty) }

/-- The refresh expiries since the entry to JOINING, of which the second ends it (R210). -/
def countExpiry (s : State) : State :=
  let s := s.setSsu fun u => { u with expiries := u.expiries + 1 }
  if s.ssu.join = .joining ∧ 2 ≤ s.ssu.expiries then endJoining s else s

/-- The refresh timer expires (R27). -/
def refreshExpires (s : State) : State :=
  match s.bdr.refreshNext with
  | some t =>
    if s.reached t then
      let s := s.setBdr fun b => { b with refreshNext := some (t + seconds s.ssu.config.refresh) }
      let aged := examineFloors (ageRoster (refreshLine s))
      let aged := if aged.floorLeft s then evaluate aged else aged
      countExpiry (offerStatus (examineRejected aged))
    else s
  | none => s

/-- REFRESH_EXPIRY. -/
def execRefreshExpiry (dt : Nat) (s : State) : Host.Outcome State Fault Refusal := runJoined dt refreshExpires s

end Sys2Proof.Machine
end

