-- ==== Sys2Proof/Machine/Startup.lean ====
section
/-! DEFINITION. The Start-up and Supply Unit (chapter 12): resets, the start sequence, and the configuration image. -/

namespace Sys2Proof.Machine

/-! ## Resets (R212) -/

/-- Every block at its reset values, the start sequence not begun. The clock, the commands that are waiting and the
rhythm of the lamps, which runs from power-on (R188), are no part of the reset. -/
def resetStation (s : State) : State :=
  { State.reset with
    now := s.now
    startedAt := s.now
    eva := { Eva.reset with lampOn := s.eva.lampOn, lampFrom := s.eva.lampFrom }
    pending := s.pending }

/-- The power comes on: the rhythm of the lamps starts too. -/
def powerUp (s : State) : State :=
  { State.reset with
    now := s.now
    startedAt := s.now
    eva := { Eva.reset with lampFrom := s.now }
    pending := s.pending }

/-- The start sequence begins: the straps are read, and the read of the configuration image is started (R206). -/
def beginStart (straps : Fin 64) (s : State) : State :=
  let station := ofNumber 63 straps.val
  let s := s.setSsu fun u => { u with stage := .image, station := station }
  s.setLif fun l => { l with tx := if station.isSome then .ready else .off }

/-- POWER_ON. -/
def execPowerOn (dt : Nat) (s : State) : Host.Outcome State Fault Refusal := .next (powerUp (s.after dt))

/-- PIN_RESET. -/
def execPinReset (dt : Nat) (s : State) : Host.Outcome State Fault Refusal := .next (resetStation (s.after dt))

/-- The pin is released, or the supply has settled (R206). -/
def releaseReset (straps : Fin 64) (s : State) : State := if s.live then s else beginStart straps s

/-- RESET_RELEASE. -/
def execResetRelease (dt : Nat) (straps : Fin 64) (s : State) : Host.Outcome State Fault Refusal :=
  .next (releaseReset straps (s.after dt))

/-! ## The configuration image (R207) -/

/-- A value in its range. -/
def within (lo hi n : Nat) : Bool := lo ≤ n && n ≤ hi

/-- The building-wide values are in their ranges. A capacity is read for stairs up to the stair count. -/
def buildingOk (b : BuildingImage) : Bool :=
  within 1 4 b.stairCount.toNat
    && ((List.finRange 4).all fun st => b.stairCount.toNat ≤ st.val || within 1 4095 b.capacity[st].toNat)
    && ((List.finRange 4).all fun st => within 1 255 b.drain[st].toNat)
    && within 1 15 b.drainTick.toNat && within 0 3 b.reachAbove.toNat && within 0 3 b.reachBelow.toNat
    && within 5 60 b.refresh.toNat

/-- The bytes over which the digest is computed (R207). -/
def digestBytes (b : BuildingImage) : List Byte :=
  b.stairCount :: b.capacity.toList.flatMap wordBytes ++ b.drain.toList ++ [b.drainTick, b.reachAbove, b.reachBelow, b.refresh]

/-- A pair of a bank and a car in their ranges. -/
def readCar {α : Type} (f : Bank → Car → α) (b c : Nat) : Option α :=
  match ofNumber 2 b, ofNumber 4 c with
  | some b, some c => some (f b c)
  | _, _ => none

/-- A point type with its parameter in range. -/
def readPointType : RawPointType → Option PointType
  | .detector g => (ofNumber 4 g).map .detector
  | .callPoint => some .callPoint
  | .lobby g => (ofNumber 4 g).map .lobby
  | .stairSmoke st => (ofNumber 4 st).map .stairSmoke
  | .machineRoom b => (ofNumber 2 b).map .machineRoom
  | .hoistway b => (ofNumber 2 b).map .hoistway
  | .legacyCoded => some .legacyCoded
  | .legacyGeneral => some .legacyGeneral
  | .leafPosition st => (ofNumber 4 st).map .leafPosition
  | .lockFeedback st => (ofNumber 4 st).map .lockFeedback
  | .carAvailable b c => readCar .carAvailable b c
  | .carParked b c => readCar .carParked b c
  | .carKey b c => readCar .carKey b c
  | .mainsFail => some .mainsFail
  | .batteryLow => some .batteryLow
  | .level2Key => some .level2Key
  | .level3Key => some .level3Key
  | .level4Jumper => some .level4Jumper
  | .unknown => none

/-- A point entry. -/
def readPoint (r : RawPoint) : Option PointConfig :=
  (readPointType r.type).map fun t => { type := t, supervised := r.supervised, verification := r.verification }

/-- An output function with its parameters in range. -/
def readOutput : RawOutput → Option OutputFunction
  | .none => some .none
  | .detectorSupply g => (ofNumber 4 g).map .detectorSupply
  | .leafLock st => (ofNumber 4 st).map .leafLock
  | .leafHold st => (ofNumber 4 st).map .leafHold
  | .recallMain b c => readCar .recallMain b c
  | .recallAlt b c => readCar .recallAlt b c
  | .hat b => (ofNumber 2 b).map .hat
  | .unknown => none

/-- A code table entry (R63): a code of 1..3 digits 1..9, and a floor. -/
def readCode (r : RawCode) : Option CodeEntry :=
  if within 1 3 r.digits.length && r.digits.all (within 1 9) then (ofIndex 64 r.floor).map fun f => { digits := r.digits, floor := f }
  else none

/-- A bank entry (R127). -/
def readBank (r : RawBank) : Option BankConfig :=
  match ofIndex 64 r.designated, ofIndex 64 r.alternate with
  | some d, some a =>
    if within 1 4 r.carCount && within 30 600 r.limit then some { designated := d, alternate := a, carCount := r.carCount, limit := r.limit }
    else none
  | _, _ => none

/-- An entry that may be absent: absent, in range, or out of range. -/
def readOptional {α β : Type} (f : α → Option β) : Option α → Option (Option β)
  | none => some none
  | some a => (f a).map some

/-- Every entry of a table read; none where one is out of range. -/
def readAll {α β : Type} {n : Nat} (d : β) (f : α → Option β) (v : Vector α n) : Option (Vector β n) :=
  if v.toList.all fun a => (f a).isSome then some (Vector.ofFn fun i => (f v[i]).getD d) else none

/-- The own floor of the image: NONE, a floor, or out of range. -/
def readOwnFloor (f : Option Nat) : Option (Option Floor) := readOptional (ofIndex 64) f

/-- The values of the station part that are single numbers are in range. The occupancy and the shares of a station
that serves no floor are not read. -/
def stationOk (st : StationImage) : Bool :=
  (st.ownFloor.isNone || (st.occupancy ≤ 1023 && st.shares.toList.all fun w => w ≤ 16))
    && within 1 4 st.speakers && within 2 30 st.gap

/-- The values of a good image (R207); none where the image is bad. The occupancy and the shares of a station that serves
no floor are not read, and are 0 here (DESIGN CHOICE, log entry 45). -/
def readImage (im : ConfigImage) : Option StationConfig :=
  if im.checkAgrees && buildingOk im.building && stationOk im.station then
    match readOwnFloor im.station.ownFloor, readAll ⟨.callPoint, false, false⟩ readPoint im.station.points,
        readAll .none readOutput im.station.outputs, readAll none (readOptional readCode) im.station.codes,
        readAll none (readOptional readBank) im.station.banks with
    | some floor, some points, some outputs, some codes, some banks =>
      some
        { unconfigured := false
          stairCount := im.building.stairCount.toNat
          capacity := Vector.ofFn fun i => im.building.capacity[i].toNat
          drain := Vector.ofFn fun i => im.building.drain[i].toNat
          drainTick := im.building.drainTick.toNat
          reachAbove := im.building.reachAbove.toNat
          reachBelow := im.building.reachBelow.toNat
          refresh := im.building.refresh.toNat
          ownFloor := floor
          occupancy := if floor.isSome then im.station.occupancy else 0
          shares := if floor.isSome then im.station.shares else Vector.replicate 4 0
          reentryFloor := im.station.reentryFloor
          points, outputs, codes
          speakers := im.station.speakers
          banks
          gap := im.station.gap
          digest := checkCode (digestBytes im.building) }
    | _, _, _, _, _ => none
  else none

/-- The building-wide values of the UNCONFIGURED station (R208). -/
def unconfiguredBuilding : BuildingImage where
  stairCount := 4
  capacity := Vector.replicate 4 4095
  drain := Vector.replicate 4 1
  drainTick := 4
  reachAbove := 1
  reachBelow := 1
  refresh := 20

/-- The values of the UNCONFIGURED station, with their digest (R208). -/
def unconfiguredConfig : StationConfig := { unconfiguredValues with digest := checkCode (digestBytes unconfiguredBuilding) }

/-- A station with a known own floor whose shares are all 0 (R207). -/
def unshared (cfg : StationConfig) : Bool := cfg.ownFloor.isSome && cfg.shares.toList.all fun w => w == 0

/-- The values that the station works with after step 2, and the delegation table of a good image (R207, R208). -/
def configure (image : Option ConfigImage) : StationConfig × Option (Vector (Option RawDelegation) 16) :=
  match image with
  | none => (unconfiguredConfig, none)
  | some im =>
    match readImage im with
    | some cfg => if unshared cfg then (unconfiguredConfig, none) else (cfg, some im.station.delegation)
    | none => (unconfiguredConfig, none)

/-- A delegation entry (R204): none where it is dropped. -/
def readDelegation (r : RawDelegation) : Option Delegation :=
  match readRequest r.code r.params with
  | some (.invoke _) => none
  | some q => if within 1 4 r.level then some { code := r.code, params := r.params, request := q, level := r.level } else none
  | none => none

/-- The delegation table and the count of entries dropped (R204). -/
def readDelegations (v : Vector (Option RawDelegation) 16) : Vector (Option Delegation) 16 × Nat :=
  (Vector.ofFn fun i => v[i].bind readDelegation,
    (v.toList.filter fun r => r.any fun r => (readDelegation r).isNone).length)

/-- A leaf record stands for each stair of the stair count that an output is assigned to (R112). -/
def hasLeaf (cfg : StationConfig) (st : Stair) : Bool :=
  st.val < cfg.stairCount && cfg.outputs.toList.any fun f => f == .leafLock st || f == .leafHold st

/-- Every block receives its values (R207). -/
def takeConfig (cfg : StationConfig) (delegation : Option (Vector (Option RawDelegation) 16)) (s : State) : State :=
  let s := s.setSsu fun u => { u with config := cfg, stage := .phraseTable }
  let s := { s with
    lfc := { s.lfc with leaves := Vector.ofFn fun st => if hasLeaf cfg st then some .reset else none }
    lfu := { s.lfu with banks := Vector.ofFn fun b => if cfg.banks[b].isSome then some .reset else none } }
  let s := match delegation with
    | some v => s.setCpt fun c => { c with delegation := (readDelegations v).1, dropped := (readDelegations v).2 }
    | none => s
  if cfg.unconfigured then raise (.internal .config) .configBad s else s

/-- The read of the configuration image has ended (R207, R208). -/
def imageRead (image : Option ConfigImage) (s : State) : State :=
  if s.ssu.stage = .image then takeConfig (configure image).1 (configure image).2 s else s

/-- CONFIG_IMAGE_READ. -/
def execConfigImageRead (dt : Nat) (image : Option ConfigImage) (s : State) : Host.Outcome State Fault Refusal :=
  run dt (imageRead image) s

/-! ## The phrase table and the entry to JOINING (R147, R206) -/

/-- The own roster record made (R31). -/
def makeOwnRecord (s : State) : State :=
  match s.ssu.station with
  | some n => followOwnRecord (s.setRecord n (some .fresh))
  | none => s

/-- The timers start, the point readings begin and the port starts (R27, R42, R104, R192). -/
def startTimers (s : State) : State :=
  { s with
    bdr := { s.bdr with refreshNext := some (s.now + seconds s.ssu.config.refresh), rejectedSeen := Vector.replicate 63 false }
    sau := { s.sau with drainNext := some (s.now + seconds s.ssu.config.drainTick) }
    lif := { s.lif with duplicateSeen := false }
    ptu := { s.ptu with points := each s.ptu.points fun _ r => { r with filterFrom := s.now } }
    cpt := { s.cpt with rx := .hunting, inHand := none, errors := 0 } }

/-- The station enters JOINING (R206). -/
def enterJoining (s : State) : State :=
  let s := s.setSsu fun u => { u with join := .joining, stage := .done, expiries := 0 }
  let s := eachBank offerLift (examineFloors (makeOwnRecord (startTimers s)))
  followOwnRecord (computeLeaves (deriveProgram (evaluate s)))

/-- The phrase table has been read (R147): the load, its condition, and the entry to JOINING. -/
def tableRead (image : PhraseImage) (s : State) : State :=
  if s.ssu.stage = .phraseTable then
    let s := { s with acu := loadTable image s.ssu.config s.acu }
    enterJoining (if s.acu.state = .good then s else raise (.internal .clipStore) .phraseTableBad s)
  else s

/-- PHRASE_TABLE_LOAD. -/
def execPhraseTableLoad (dt : Nat) (image : PhraseImage) (s : State) : Host.Outcome State Fault Refusal :=
  run dt (tableRead image) s

end Sys2Proof.Machine
end

