-- ==== Sys2Proof/Machine/Console.lean ====
section
/-! DEFINITION. The Console Port (chapter 11): frames, the check sequence, the requests and their answers. -/

namespace Sys2Proof.Machine

/-! ## Requests carried out (R197 to R201) -/

/-- The answer of an owner's check and action given at once. -/
def answered (r : State × Answer) : State := answerNow r.2 [] r.1

/-- An entry acknowledged: absent where it is removed (R186). -/
def EventEntry.acknowledge (e : EventEntry) : Option EventEntry :=
  match e.state with
  | .activeUnack => some { e with state := .activeAck, seen := e.seen.filter fun c => e.active.contains c }
  | .activeAck => some e
  | .clearedUnack => none

/-- ACKNOWLEDGE (R186), answered with the two counts. -/
def acknowledgeAll (s : State) : State :=
  let l := s.eva.entries
  answerNow .accepted [countEntries s fun e => e.state == .activeUnack, countEntries s fun e => e.state == .clearedUnack]
    (s.setEntries (l.filterMap EventEntry.acknowledge))

/-- SET_BUZZER_MASK (R190). -/
def setMask (m : BuzzerMask) (s : State) : State :=
  let s := ({ s with eva := { s.eva with mask := m } }).annunciate
  answerNow .accepted [] (keep (m.supervisory || m.fault || m.notice) (.internal .console) .buzzerMasked s)

/-- A COMMAND offered (R199). -/
def offerCommand (cmd : Command) (s : State) : State :=
  if 2 ≤ s.cpt.commands then answerNow .busy [] s
  else match offer (.command cmd s.level) s with
    | (s, true) => answerNow .accepted [] (s.setCpt fun c => { c with commands := c.commands + 1 })
    | (s, false) => answerNow .busy [] s

/-- RESET_REGIME (R86). -/
def offerReset (s : State) : State :=
  if 65535 ≤ s.rgu.epoch then answerNow .state [] s
  else match offer (.regimeReset (s.rgu.epoch + 1) s.level) s with
    | (s, true) => answerNow .accepted (twoBytes (s.rgu.epoch + 1)) s
    | (s, false) => answerNow .busy [] s

/-- FORCE_CHECK_ERROR (R19). -/
def offerTest (s : State) : State :=
  let n := s.lif.testSequence
  match offer (.test n) s with
  | (s, true) => answerNow .accepted [oneByte n] (s.setLif fun l => { l with testSequence := (n + 1) % 256 })
  | (s, false) => answerNow .busy [] s

/-- START_PAGE (R175, R200). -/
def startPageAnswered (scope : PageScope) (s : State) : State :=
  match startPageRequest scope s with
  | (s, some a) => answerNow a [] s
  | (s, none) => s

/-- RESTART_STATION (R201): the restart follows its answer. -/
def restartAnswered (s : State) : State :=
  answerNow .accepted [] (s.setCpt fun c => { c with inHand := c.inHand.map fun h => { h with restart := true } })

/-- A request from step 4 of the check sequence on (R196 to R199). An INVOKE within a delegation entry does not arise
(R204). -/
def perform (r : Request) (s : State) : State :=
  match r with
  | .queryView view item => answerNow .accepted (viewBytes view item s) s
  | .queryEvents first => answerNow .accepted (eventsBytes first s) s
  | .queryStairs => answerNow .accepted (stairsBytes s) s
  | .acknowledge => acknowledgeAll s
  | .silenceAlert => offerCommand .silenceAlert s
  | .unlockStairs => offerCommand .unlockStairs s
  | .securityLock st => answered (securityRequest true st s)
  | .securityFree st => answered (securityRequest false st s)
  | .startPage scope => startPageAnswered scope s
  | .stopPage => answered (stopPageRequest s)
  | .resetRegime => offerReset s
  | .isolatePoint p => answered (isolatePoint p s)
  | .restorePoint p => answered (restorePoint p s)
  | .manualRecall b => offerCommand (.manualRecall b) s
  | .cancelRecall b => offerCommand (.cancelRecall b) s
  | .testAnnounce => answered (testRequest s)
  | .setBuzzerMask m => setMask m s
  | .forceCheckError => offerTest s
  | .restartStation => restartAnswered s
  | .invoke _ => answerNow .range [] s

/-- Native levels (R197). That of INVOKE is the required level of the entry. -/
def nativeLevel : Request → Nat
  | .queryView _ _ | .queryEvents _ | .queryStairs => 1
  | .acknowledge | .silenceAlert | .unlockStairs | .securityLock _ | .securityFree _ | .startPage _ | .stopPage => 2
  | .resetRegime | .isolatePoint _ | .restorePoint _ | .manualRecall _ | .cancelRecall _ | .testAnnounce
  | .setBuzzerMask _ => 3
  | .forceCheckError | .restartStation => 4
  | .invoke _ => 1

/-- Step 3 of the check sequence, and what follows it (R196). -/
def checkLevel (required : Nat) (r : Request) (s : State) : State :=
  if required ≤ s.level then perform r s else answerNow .level [] s

/-- INVOKE through the check sequence (R196, R205). -/
def checkInvoke (n : Nat) (s : State) : State :=
  match ofIndex 16 n with
  | none => answerNow .range [] s
  | some i =>
    match s.cpt.delegation[i] with
    | none => answerNow .absent [] s
    | some d => checkLevel d.level d.request s

/-- A validated request through the check sequence (R196). -/
def check (r : Request) (s : State) : State :=
  match r with
  | .invoke n => checkInvoke n s
  | r => checkLevel (nativeLevel r) r s

/-! ## Frames (R192, R193) -/

/-- A frame dropped: the port error count rises (R192). -/
def dropFrame (s : State) : State :=
  s.setCpt fun c => { c with rx := .hunting, errors := min 255 (c.errors + 1) }

/-- The request of a complete frame becomes the request in hand. -/
def takeInHand (code : Byte) (s : State) : State :=
  s.setCpt fun c => { c with rx := .hunting, inHand := some { code := code, answer := none, restart := false } }

/-- A complete frame: dropped while a request is in hand, else validated as the request in hand (R193, R194). -/
def takeRequest (code : Byte) (params : List Byte) (s : State) : State :=
  if s.cpt.inHand.isSome then dropFrame s
  else
    match readRequest code params with
    | some r => check r (takeInHand code s)
    | none => answerNow .range [] (takeInHand code s)

/-- The bytes of a frame at the receiver of the port (R192). -/
def receiveFrame (bytes : List Byte) (s : State) : State :=
  match judgeFrame bytes with
  | .complete code params => takeRequest code params s
  | .dropped => dropFrame s
  | .unfinished => s

/-- The frame that a console sends for a code and its parameter bytes (R40). -/
def takeFrame (code : Byte) (params : List Byte) (s : State) : State := receiveFrame (requestBytes code params) s

/-- PORT_BYTE_TIMEOUT: more than 20 ms between two bytes of a frame (R192). -/
def execPortByteTimeout (dt : Nat) (s : State) : Host.Outcome State Fault Refusal := runJoined dt dropFrame s

/-- A frame dropped at a bad stop bit, at its length byte, at its check, or for a request in hand; bytes that R192 and R193
do not drop are no such event (R192, R193). -/
def frameDiscarded (why : FrameFault) (s : State) : State :=
  match why with
  | .badStopBit => dropFrame s
  | .frame bytes =>
    match judgeFrame bytes with
    | .complete _ _ => if s.cpt.inHand.isSome then dropFrame s else s
    | .dropped => dropFrame s
    | .unfinished => s

/-- PORT_FRAME_DISCARDED. -/
def execPortFrameDiscarded (dt : Nat) (why : FrameFault) (s : State) : Host.Outcome State Fault Refusal :=
  runJoined dt (frameDiscarded why) s

/-! ## The request commands (R40) -/

/-- QUERY_VIEW. -/
def execQueryView (dt : Nat) (params : List Byte) (s : State) : Host.Outcome State Fault Refusal :=
  runJoined dt (takeFrame 0x01 params) s

/-- QUERY_EVENTS. -/
def execQueryEvents (dt : Nat) (params : List Byte) (s : State) : Host.Outcome State Fault Refusal :=
  runJoined dt (takeFrame 0x02 params) s

/-- QUERY_STAIRS. -/
def execQueryStairs (dt : Nat) (params : List Byte) (s : State) : Host.Outcome State Fault Refusal :=
  runJoined dt (takeFrame 0x03 params) s

/-- ACKNOWLEDGE. -/
def execAcknowledge (dt : Nat) (params : List Byte) (s : State) : Host.Outcome State Fault Refusal :=
  runJoined dt (takeFrame 0x11 params) s

/-- SILENCE_ALERT. -/
def execSilenceAlert (dt : Nat) (params : List Byte) (s : State) : Host.Outcome State Fault Refusal :=
  runJoined dt (takeFrame 0x12 params) s

/-- UNLOCK_STAIRS. -/
def execUnlockStairs (dt : Nat) (params : List Byte) (s : State) : Host.Outcome State Fault Refusal :=
  runJoined dt (takeFrame 0x13 params) s

/-- SECURITY_LOCK. -/
def execSecurityLock (dt : Nat) (params : List Byte) (s : State) : Host.Outcome State Fault Refusal :=
  runJoined dt (takeFrame 0x14 params) s

/-- SECURITY_FREE. -/
def execSecurityFree (dt : Nat) (params : List Byte) (s : State) : Host.Outcome State Fault Refusal :=
  runJoined dt (takeFrame 0x15 params) s

/-- START_PAGE. -/
def execStartPage (dt : Nat) (params : List Byte) (s : State) : Host.Outcome State Fault Refusal :=
  runJoined dt (takeFrame 0x16 params) s

/-- STOP_PAGE. -/
def execStopPage (dt : Nat) (params : List Byte) (s : State) : Host.Outcome State Fault Refusal :=
  runJoined dt (takeFrame 0x17 params) s

/-- RESET_REGIME. -/
def execResetRegime (dt : Nat) (params : List Byte) (s : State) : Host.Outcome State Fault Refusal :=
  runJoined dt (takeFrame 0x21 params) s

/-- ISOLATE_POINT. -/
def execIsolatePoint (dt : Nat) (params : List Byte) (s : State) : Host.Outcome State Fault Refusal :=
  runJoined dt (takeFrame 0x22 params) s

/-- RESTORE_POINT. -/
def execRestorePoint (dt : Nat) (params : List Byte) (s : State) : Host.Outcome State Fault Refusal :=
  runJoined dt (takeFrame 0x23 params) s

/-- MANUAL_RECALL. -/
def execManualRecall (dt : Nat) (params : List Byte) (s : State) : Host.Outcome State Fault Refusal :=
  runJoined dt (takeFrame 0x24 params) s

/-- CANCEL_RECALL. -/
def execCancelRecall (dt : Nat) (params : List Byte) (s : State) : Host.Outcome State Fault Refusal :=
  runJoined dt (takeFrame 0x25 params) s

/-- TEST_ANNOUNCE. -/
def execTestAnnounce (dt : Nat) (params : List Byte) (s : State) : Host.Outcome State Fault Refusal :=
  runJoined dt (takeFrame 0x26 params) s

/-- SET_BUZZER_MASK. -/
def execSetBuzzerMask (dt : Nat) (params : List Byte) (s : State) : Host.Outcome State Fault Refusal :=
  runJoined dt (takeFrame 0x27 params) s

/-- FORCE_CHECK_ERROR. -/
def execForceCheckError (dt : Nat) (params : List Byte) (s : State) : Host.Outcome State Fault Refusal :=
  runJoined dt (takeFrame 0x31 params) s

/-- RESTART_STATION. -/
def execRestartStation (dt : Nat) (params : List Byte) (s : State) : Host.Outcome State Fault Refusal :=
  runJoined dt (takeFrame 0x32 params) s

/-- INVOKE. -/
def execInvoke (dt : Nat) (params : List Byte) (s : State) : Host.Outcome State Fault Refusal :=
  runJoined dt (takeFrame 0x40 params) s

/-- A frame whose code is not in the table of R40; one whose code is there is no such frame. -/
def unknownFrame (code : Byte) (params : List Byte) (s : State) : State :=
  if knownCode code then s else takeFrame code params s

/-- REQUEST_CODE_UNKNOWN. -/
def execRequestCodeUnknown (dt : Nat) (code : Byte) (params : List Byte) (s : State) : Host.Outcome State Fault Refusal :=
  runJoined dt (unknownFrame code params) s

/-! ## The end of an answer (R193, R201) -/

/-- The last byte of the answer has been sent: the request leaves the port's hand, and a restart follows where it was a
RESTART_STATION (R193, R201, R212). -/
def answerSent (straps : Fin 64) (s : State) : State :=
  match s.cpt.inHand with
  | some h =>
    if h.answer.isNone then s
    else if h.restart then beginStart straps (resetStation s)
    else s.setCpt fun c => { c with inHand := none }
  | none => s

/-- ANSWER_SENT. -/
def execAnswerSent (dt : Nat) (straps : Fin 64) (s : State) : Host.Outcome State Fault Refusal :=
  runJoined dt (answerSent straps) s

end Sys2Proof.Machine
end

