-- ==== Sys2Proof/Machine/Field.lean ====
section
/-! DEFINITION. The commands of the field side: timers and readings of the Point Unit, the stairs, the leaves and the
lifts, the annunciator, and playback. -/

namespace Sys2Proof.Machine

/-! ## Stairs and points -/

/-- The drain tick expires (R104 to R106). -/
def drainTick (s : State) : State :=
  match s.sau.drainNext with
  | some t =>
    if s.reached t then
      let s' := drainAll (s.setSau fun u => { u with drainNext := some (t + seconds s.ssu.config.drainTick) })
      if s'.sau.queues = s.sau.queues then s' else evaluate s'
    else s
  | none => s

/-- DRAIN_TICK. -/
def execDrainTick (dt : Nat) (s : State) : Host.Outcome State Fault Refusal := runJoined dt drainTick s

/-- A reading taken at a point that can take it (R42). -/
def readingTaken (p : Point) (r : Sensed) (s : State) : State := if s.canTake p r then takeReading p r s else s

/-- READING_TAKEN. -/
def execReadingTaken (dt : Nat) (p : Point) (r : Sensed) (s : State) : Host.Outcome State Fault Refusal :=
  runJoined dt (readingTaken p r) s

/-- SUPPLY_CUT_END. -/
def execSupplyCutEnd (dt : Nat) (g : Group) (s : State) : Host.Outcome State Fault Refusal := runJoined dt (cutEnds g) s

/-- WINDOW_EXPIRY. -/
def execWindowExpiry (dt : Nat) (p : Point) (s : State) : Host.Outcome State Fault Refusal := runJoined dt (windowEnds p) s

/-- DIGIT_CLOSE. -/
def execDigitClose (dt : Nat) (p : Point) (s : State) : Host.Outcome State Fault Refusal := runJoined dt (digitCloses p) s

/-- An event of a point's decoder, and the map and the phase where it has changed the own set (R70, R74). -/
def decoderEvent (f : State → State) (s : State) : State :=
  if (f s).rgu.own = s.rgu.own then f s else ownSetChanged (f s)

/-- ROUND_CLOSE. -/
def execRoundClose (dt : Nat) (p : Point) (s : State) : Host.Outcome State Fault Refusal :=
  runJoined dt (decoderEvent (roundCloses p)) s

/-- CONTINUOUS_RING. -/
def execContinuousRing (dt : Nat) (p : Point) (s : State) : Host.Outcome State Fault Refusal :=
  runJoined dt (decoderEvent (continuousRing p)) s

/-! ## Leaves and lifts -/

/-- LOCK_FEEDBACK_TIMEOUT. -/
def execLockFeedbackTimeout (dt : Nat) (st : Stair) (s : State) : Host.Outcome State Fault Refusal :=
  runJoined dt (feedbackTimeout st) s

/-- LEAF_CLOSING_TIMEOUT. -/
def execLeafClosingTimeout (dt : Nat) (st : Stair) (s : State) : Host.Outcome State Fault Refusal :=
  runJoined dt (closingTimeout st) s

/-- RECALL_TIMER_LIMIT. -/
def execRecallTimerLimit (dt : Nat) (b : Bank) (c : Car) (s : State) : Host.Outcome State Fault Refusal :=
  runJoined dt (recallLimit b c) s

/-- HAT_FLASH_TOGGLE. -/
def execHatFlashToggle (dt : Nat) (b : Bank) (s : State) : Host.Outcome State Fault Refusal := runJoined dt (hatToggle b) s

/-! ## The annunciator (R188, R189) -/

/-- Half a second of the lamps' rhythm has run. -/
def lampToggle (s : State) : State :=
  if s.reached (s.eva.lampFrom + halfSecond) then
    { s with eva := { s.eva with lampOn := !s.eva.lampOn, lampFrom := s.eva.lampFrom + halfSecond } }
  else s

/-- LAMP_FLASH_TOGGLE: the rhythm runs from power-on, through a reset as well. -/
def execLampFlashToggle (dt : Nat) (s : State) : Host.Outcome State Fault Refusal := .next (lampToggle (s.after dt))

/-- How long the pattern of a class stays energized and de-energized; FIRE has no pause (R189). -/
def patternOf : EventClass → Option (Time × Time)
  | .fire => none
  | .supervisory => some (seconds 1, seconds 1)
  | .fault => some (millis 250, millis 1750)
  | .notice => some (millis 100, millis 9900)

/-- The step of the pattern that now stands has run. -/
def patternStep (s : State) : State :=
  match s.eva.sounding.bind patternOf with
  | some (on, off) =>
    let t := s.eva.buzzerFrom + if s.eva.buzzerOn then on else off
    if s.reached t then { s with eva := { s.eva with buzzerOn := !s.eva.buzzerOn, buzzerFrom := t } } else s
  | none => s

/-- BUZZER_PATTERN_STEP. -/
def execBuzzerPatternStep (dt : Nat) (s : State) : Host.Outcome State Fault Refusal := run dt patternStep s

/-! ## Playback -/

/-- GAP_EXPIRY. -/
def execGapExpiry (dt : Nat) (s : State) : Host.Outcome State Fault Refusal := runJoined dt gapEnds s

/-- CLIP_HEADER_READ. -/
def execClipHeaderRead (dt : Nat) (h : Option ClipHeader) (s : State) : Host.Outcome State Fault Refusal :=
  runJoined dt (headerRead h) s

/-- BUFFER_BLOCK_FILLED. -/
def execBufferBlockFilled (dt : Nat) (data : List Byte) (s : State) : Host.Outcome State Fault Refusal :=
  runJoined dt (blockFilled data) s

/-- BUFFER_BLOCK_SOUNDED. -/
def execBufferBlockSounded (dt : Nat) (s : State) : Host.Outcome State Fault Refusal := runJoined dt blockSounded s

/-- UNDERRUN_TIMEOUT. -/
def execUnderrunTimeout (dt : Nat) (s : State) : Host.Outcome State Fault Refusal := runJoined dt underrunEnds s

/-- CLIP_END. -/
def execClipEnd (dt : Nat) (s : State) : Host.Outcome State Fault Refusal := runJoined dt clipEnds s

/-- TONE_END. -/
def execToneEnd (dt : Nat) (s : State) : Host.Outcome State Fault Refusal := runJoined dt toneEnds s

/-- PAGE_EXPIRY. -/
def execPageExpiry (dt : Nat) (s : State) : Host.Outcome State Fault Refusal := runJoined dt pageExpires s

/-- CIRCUIT_SENSE_TAKEN. -/
def execCircuitSenseTaken (dt : Nat) (n : Circuit) (r : CircuitSense) (s : State) : Host.Outcome State Fault Refusal :=
  runJoined dt (circuitTaken n r) s

end Sys2Proof.Machine
end

