-- ==== Sys2Proof/Machine/Outputs.lean ====
section
/-! DEFINITION. The output pins as the state gives them (00_scope.md section 7.1). -/

namespace Sys2Proof.Machine

/-- A car of the station whose recall output is `v` (R129, R136). -/
def State.recallEnergized (s : State) (b : Bank) (c : Car) (v : RecallOutput) : Bool :=
  match s.lfu.banks[b] with
  | some r => s.hasCar b c && r.cars[c].output == v
  | none => false

/-- An output of a function is energized (R48, R117, R129, R143). -/
def State.energized (s : State) : OutputFunction → Bool
  | .none => false
  | .detectorSupply g => s.ptu.cuts[g].isSome
  | .leafLock st => s.lfc.leaves[st].any fun l => l.lock == .locked
  | .leafHold st => s.lfc.leaves[st].any fun l => l.hold == .held
  | .recallMain b c => s.recallEnergized b c .main
  | .recallAlt b c => s.recallEnergized b c .alt
  | .hat b => s.lfu.banks[b].any fun r => r.hatOn

/-- OUT0..OUT23. -/
def State.out (s : State) (n : Fin 24) : Bool := s.energized s.ssu.config.outputs[n]

/-- The states of a lamp (R188). -/
inductive Lamp
  | off | steady | flashing
deriving DecidableEq, Repr

/-- The lamp of a class (R188); NOTICE has none. -/
def State.lamp (s : State) (k : EventClass) : Lamp :=
  if k = .notice then .off
  else if s.eva.entries.any fun e => e.cls == k && e.unacknowledged then .flashing
  else if s.eva.entries.any fun e => e.cls == k then .steady
  else .off

/-- LAMP_FIRE, LAMP_SUP and LAMP_FLT. -/
def State.lampPin (s : State) (k : EventClass) : Bool :=
  match s.lamp k with
  | .off => false
  | .steady => true
  | .flashing => s.eva.lampOn

/-- BUZZER (R189). -/
def State.buzzer (s : State) : Bool := s.eva.buzzerOn

/-- PAGE_SEL (R178). -/
def State.pageSel (s : State) : Bool := s.pbu.inScope

/-- SPK_SEL1..SPK_SEL4 (R179). -/
def State.speaker (s : State) (n : Circuit) : Bool := s.circuitSelected n

/-- LINE_TX is driven by the transmitter: a bulletin or an error break (section 1.2). -/
def State.driving (s : State) : Bool :=
  s.lif.tx == .arbitrating || s.lif.tx == .sending || s.lif.tx == .breaking

/-- The two levels of the riser line (R1): dominant is logic 0 and recessive logic 1. -/
inductive Level
  | dominant | recessive
deriving DecidableEq, Repr

/-- The level of a bit. -/
def bitLevel (b : Bool) : Level := if b then .recessive else .dominant

/-- The levels of a byte, one for each of its 10 bit times: the start bit, the data bits with the most significant first,
and the stop bit (R1). -/
def byteLevels (b : Byte) : List Level :=
  .dominant :: ((List.range 8).map fun i => bitLevel (b.getLsbD (7 - i))) ++ [.recessive]

/-- The levels of bytes placed back to back (R1). -/
def levels (bytes : List Byte) : List Level := bytes.flatMap byteLevels

/-- The bytes that the transmitter puts on the line for the entry that stands on it (R1, R38). -/
def State.lineBytes (s : State) : Option (List Byte) :=
  match s.lif.onLine, s.ssu.station with
  | some e, some n => if s.lif.tx = .arbitrating ∨ s.lif.tx = .sending then some (bulletinBytes e.cls n e.content) else none
  | _, _ => none

/-- LINE_TX in the bit time that begins now: the bulletin that has stood on the line since `txFrom`, the 12 dominant bit
times of an error break, and recessive otherwise (R1, R9). -/
def State.lineTx (s : State) : Level :=
  match s.lif.tx with
  | .arbitrating | .sending => ((s.lineBytes.map levels).bind fun l => l[s.now - s.lif.txFrom]?).getD .recessive
  | .breaking => if s.now < s.lif.breakFrom + breakTime then .dominant else .recessive
  | .off | .ready => .recessive

/-- What AUDIO_OUT carries: silence, the built-in tone, or one sample of the clip in play (R171). -/
inductive Audio
  | silent | tone | sample (b : Byte)
deriving DecidableEq, Repr

/-- The sample of the PLAYING block that is sounded now, at 8,000 samples a second; none past its last one. -/
def State.sampleNow (s : State) : Option Byte :=
  (s.pbu.blockIn .playing).bind fun i =>
    s.pbu.blocks[i].data[5 * (s.now - s.pbu.soundFrom) / 6 - s.pbu.sounded]?

/-- AUDIO_OUT: the tone or the samples of the clip in play, and silence while none is in play, while a fetch is starting
and in an underrun (R171, R173, R180). -/
def State.audioOut (s : State) : Audio :=
  match s.pbu.inPlay with
  | some .tone => if s.now < s.pbu.toneFrom + toneTime then .tone else .silent
  | some (.clip _) => match s.sampleNow with
    | some b => .sample b
    | none => .silent
  | none => .silent

/-- The answer frame that CON_TXD carries, while one is being sent (R193). -/
def State.answerFrame (s : State) : Option (List Byte) := s.cpt.inHand.bind (·.answer)

end Sys2Proof.Machine
end

