-- ==== Sys2Proof/Machine/Dispatch.lean ====
section
/-! DEFINITION. The meaning of every command: one arm for each constructor of `Instr`. -/

namespace Sys2Proof.Machine

def exec (i : Instr) (s : State) : Host.Outcome State Fault Refusal :=
  match i with
  | .powerOn dt => Sys2Proof.Machine.execPowerOn dt s
  | .pinReset dt => Sys2Proof.Machine.execPinReset dt s
  | .resetRelease dt straps => Sys2Proof.Machine.execResetRelease dt straps s
  | .configImageRead dt image => Sys2Proof.Machine.execConfigImageRead dt image s
  | .phraseTableLoad dt image => Sys2Proof.Machine.execPhraseTableLoad dt image s
  | .receiverIdle dt => Sys2Proof.Machine.execReceiverIdle dt s
  | .transmitStart dt => Sys2Proof.Machine.execTransmitStart dt s
  | .arbitrationLost dt => Sys2Proof.Machine.execArbitrationLost dt s
  | .arbitrationWon dt => Sys2Proof.Machine.execArbitrationWon dt s
  | .bitError dt => Sys2Proof.Machine.execBitError dt s
  | .errorBreakEnd dt => Sys2Proof.Machine.execErrorBreakEnd dt s
  | .bulletinEnd dt ending => Sys2Proof.Machine.execBulletinEnd dt ending s
  | .holdGapRelease dt => Sys2Proof.Machine.execHoldGapRelease dt s
  | .refreshExpiry dt => Sys2Proof.Machine.execRefreshExpiry dt s
  | .drainTick dt => Sys2Proof.Machine.execDrainTick dt s
  | .readingTaken dt p r => Sys2Proof.Machine.execReadingTaken dt p r s
  | .supplyCutEnd dt g => Sys2Proof.Machine.execSupplyCutEnd dt g s
  | .windowExpiry dt p => Sys2Proof.Machine.execWindowExpiry dt p s
  | .digitClose dt p => Sys2Proof.Machine.execDigitClose dt p s
  | .roundClose dt p => Sys2Proof.Machine.execRoundClose dt p s
  | .continuousRing dt p => Sys2Proof.Machine.execContinuousRing dt p s
  | .lockFeedbackTimeout dt st => Sys2Proof.Machine.execLockFeedbackTimeout dt st s
  | .leafClosingTimeout dt st => Sys2Proof.Machine.execLeafClosingTimeout dt st s
  | .recallTimerLimit dt b c => Sys2Proof.Machine.execRecallTimerLimit dt b c s
  | .hatFlashToggle dt b => Sys2Proof.Machine.execHatFlashToggle dt b s
  | .lampFlashToggle dt => Sys2Proof.Machine.execLampFlashToggle dt s
  | .buzzerPatternStep dt => Sys2Proof.Machine.execBuzzerPatternStep dt s
  | .gapExpiry dt => Sys2Proof.Machine.execGapExpiry dt s
  | .clipHeaderRead dt header => Sys2Proof.Machine.execClipHeaderRead dt header s
  | .bufferBlockFilled dt data => Sys2Proof.Machine.execBufferBlockFilled dt data s
  | .bufferBlockSounded dt => Sys2Proof.Machine.execBufferBlockSounded dt s
  | .underrunTimeout dt => Sys2Proof.Machine.execUnderrunTimeout dt s
  | .clipEnd dt => Sys2Proof.Machine.execClipEnd dt s
  | .toneEnd dt => Sys2Proof.Machine.execToneEnd dt s
  | .pageExpiry dt => Sys2Proof.Machine.execPageExpiry dt s
  | .circuitSenseTaken dt n r => Sys2Proof.Machine.execCircuitSenseTaken dt n r s
  | .portByteTimeout dt => Sys2Proof.Machine.execPortByteTimeout dt s
  | .portFrameDiscarded dt why => Sys2Proof.Machine.execPortFrameDiscarded dt why s
  | .queryView dt params => Sys2Proof.Machine.execQueryView dt params s
  | .queryEvents dt params => Sys2Proof.Machine.execQueryEvents dt params s
  | .queryStairs dt params => Sys2Proof.Machine.execQueryStairs dt params s
  | .acknowledge dt params => Sys2Proof.Machine.execAcknowledge dt params s
  | .silenceAlert dt params => Sys2Proof.Machine.execSilenceAlert dt params s
  | .unlockStairs dt params => Sys2Proof.Machine.execUnlockStairs dt params s
  | .securityLock dt params => Sys2Proof.Machine.execSecurityLock dt params s
  | .securityFree dt params => Sys2Proof.Machine.execSecurityFree dt params s
  | .startPage dt params => Sys2Proof.Machine.execStartPage dt params s
  | .stopPage dt params => Sys2Proof.Machine.execStopPage dt params s
  | .resetRegime dt params => Sys2Proof.Machine.execResetRegime dt params s
  | .isolatePoint dt params => Sys2Proof.Machine.execIsolatePoint dt params s
  | .restorePoint dt params => Sys2Proof.Machine.execRestorePoint dt params s
  | .manualRecall dt params => Sys2Proof.Machine.execManualRecall dt params s
  | .cancelRecall dt params => Sys2Proof.Machine.execCancelRecall dt params s
  | .testAnnounce dt params => Sys2Proof.Machine.execTestAnnounce dt params s
  | .setBuzzerMask dt params => Sys2Proof.Machine.execSetBuzzerMask dt params s
  | .forceCheckError dt params => Sys2Proof.Machine.execForceCheckError dt params s
  | .restartStation dt params => Sys2Proof.Machine.execRestartStation dt params s
  | .invoke dt params => Sys2Proof.Machine.execInvoke dt params s
  | .answerSent dt straps => Sys2Proof.Machine.execAnswerSent dt straps s
  | .startBitRead dt => Sys2Proof.Machine.execStartBitRead dt s
  | .requestCodeUnknown dt code params => Sys2Proof.Machine.execRequestCodeUnknown dt code params s

end Sys2Proof.Machine
end

