-- ==== Sys2Proof/Safety.lean ====
section
/-! DEFINITION. What is always true of a station that runs: the invariants that statements use as premises and conclude,
each in the terms of the chapter that gives it. -/

namespace Sys2Proof.Machine

/-! ## The start sequence (R206) -/

/-- The station has entered JOINING exactly when its start sequence has ended. -/
abbrev State.sequenced (s : State) : Prop := s.entered = (s.ssu.stage == .done)

/-- The station is out of reset and has entered JOINING: it serves its line, its points and its console. -/
abbrev State.serving (s : State) : Prop := s.live = true ∧ s.entered = true

/-! ## The configuration image (section 12.2) -/

/-- A point type as a point entry of the image names it (R41). -/
def rawType : PointType → RawPointType
  | .detector g => .detector (number g)
  | .callPoint => .callPoint
  | .lobby g => .lobby (number g)
  | .stairSmoke st => .stairSmoke (number st)
  | .machineRoom b => .machineRoom (number b)
  | .hoistway b => .hoistway (number b)
  | .legacyCoded => .legacyCoded
  | .legacyGeneral => .legacyGeneral
  | .leafPosition st => .leafPosition (number st)
  | .lockFeedback st => .lockFeedback (number st)
  | .carAvailable b c => .carAvailable (number b) (number c)
  | .carParked b c => .carParked (number b) (number c)
  | .carKey b c => .carKey (number b) (number c)
  | .mainsFail => .mainsFail
  | .batteryLow => .batteryLow
  | .level2Key => .level2Key
  | .level3Key => .level3Key
  | .level4Jumper => .level4Jumper

/-- An output function as the image names it. -/
def rawOutput : OutputFunction → RawOutput
  | .none => .none
  | .detectorSupply g => .detectorSupply (number g)
  | .leafLock st => .leafLock (number st)
  | .leafHold st => .leafHold (number st)
  | .recallMain b c => .recallMain (number b) (number c)
  | .recallAlt b c => .recallAlt (number b) (number c)
  | .hat b => .hat (number b)

/-- The values lie in the ranges of section 12.2; a capacity is read for the stairs up to the stair count. -/
abbrev valuesInRange (cfg : StationConfig) : Prop :=
  (1 ≤ cfg.stairCount ∧ cfg.stairCount ≤ 4)
    ∧ (∀ st : Stair, st.val < cfg.stairCount → 1 ≤ cfg.capacity[st] ∧ cfg.capacity[st] ≤ 4095)
    ∧ (∀ st : Stair, 1 ≤ cfg.drain[st] ∧ cfg.drain[st] ≤ 255)
    ∧ (1 ≤ cfg.drainTick ∧ cfg.drainTick ≤ 15) ∧ cfg.reachAbove ≤ 3 ∧ cfg.reachBelow ≤ 3
    ∧ (5 ≤ cfg.refresh ∧ cfg.refresh ≤ 60) ∧ cfg.occupancy ≤ 1023 ∧ (∀ st : Stair, cfg.shares[st] ≤ 16)
    ∧ (1 ≤ cfg.speakers ∧ cfg.speakers ≤ 4) ∧ (2 ≤ cfg.gap ∧ cfg.gap ≤ 30)
    ∧ (∀ b : Bank, ∀ k ∈ cfg.banks[b], 1 ≤ k.carCount ∧ k.carCount ≤ 4 ∧ 30 ≤ k.limit ∧ k.limit ≤ 600)
    ∧ (∀ i : Fin 32, ∀ e ∈ cfg.codes[i], 1 ≤ e.digits.length ∧ e.digits.length ≤ 3 ∧ ∀ d ∈ e.digits, 1 ≤ d ∧ d ≤ 9)

/-- Each value of a configuration is the image's value of that field (R207); occupancy and shares are read where an own
floor is given. -/
abbrev imageHolds (im : ConfigImage) (cfg : StationConfig) : Prop :=
  cfg.unconfigured = false
    ∧ cfg.stairCount = im.building.stairCount.toNat
    ∧ (∀ st : Stair, cfg.capacity[st] = im.building.capacity[st].toNat ∧ cfg.drain[st] = im.building.drain[st].toNat)
    ∧ cfg.drainTick = im.building.drainTick.toNat ∧ cfg.reachAbove = im.building.reachAbove.toNat
    ∧ cfg.reachBelow = im.building.reachBelow.toNat ∧ cfg.refresh = im.building.refresh.toNat
    ∧ cfg.digest = checkCode (digestBytes im.building)
    ∧ im.station.ownFloor = cfg.ownFloor.map (·.val)
    ∧ (if cfg.ownFloor = none then cfg.occupancy = 0 ∧ cfg.shares = Vector.replicate 4 0
        else cfg.occupancy = im.station.occupancy ∧ cfg.shares = im.station.shares)
    ∧ cfg.reentryFloor = im.station.reentryFloor
    ∧ (∀ p : Point, im.station.points[p] =
        ⟨rawType cfg.points[p].type, cfg.points[p].supervised, cfg.points[p].verification⟩)
    ∧ (∀ o : Fin 24, im.station.outputs[o] = rawOutput cfg.outputs[o])
    ∧ (∀ i : Fin 32, im.station.codes[i] = cfg.codes[i].map fun e => ⟨e.digits, e.floor.val⟩)
    ∧ (∀ b : Bank, im.station.banks[b] = cfg.banks[b].map fun k =>
        ⟨k.designated.val, k.alternate.val, k.carCount, k.limit⟩)
    ∧ cfg.speakers = im.station.speakers ∧ cfg.gap = im.station.gap

/-! ## The event list and the annunciator (R182, R188, R189) -/

/-- An entry as R182 describes it. -/
abbrev EventEntry.ok (e : EventEntry) : Prop :=
  e.active.Nodup ∧ e.seen.Nodup ∧ (∀ c ∈ e.active, c ∈ e.seen) ∧ (e.state = .clearedUnack ↔ e.active = [])
    ∧ (∀ c ∈ e.active, eventClassCode e.cls ≤ eventClassCode c.cls)
    ∧ (e.active ≠ [] → ∃ c ∈ e.active, c.cls = e.cls)
    ∧ 1 ≤ e.count ∧ e.count ≤ 255 ∧ e.first ≤ 4294967295

/-- One entry for each source at most, in the order of the source numbers (R181); every entry as R182 describes it;
and the buzzer on the class that R189 gives. -/
abbrev Eva.ok (v : Eva) : Prop :=
  (v.entries.map fun e => sourceNumber e.source).Pairwise (· < ·)
    ∧ (∀ e ∈ v.entries, e.ok)
    ∧ v.sounding = v.sounded
    ∧ (v.sounding = none → v.buzzerOn = false) ∧ (v.sounding = some .fire → v.buzzerOn = true)

/-- What the presentation order compares (R187): class, first occurrence, source number. -/
def EventEntry.rank (e : EventEntry) : List Nat := [eventClassCode e.cls, e.first, sourceNumber e.source]

/-! ## The transmit queue (R7 to R18) -/

/-- The states of the entries that stand on the line, as the transmitter's state gives them. -/
def TxState.onLine : TxState → List EntryState
  | .arbitrating => [.arbitrating]
  | .sending => [.sending]
  | .off | .ready | .breaking => []

/-- A queue entry as R12 describes it. -/
abbrev TxEntry.ok (e : TxEntry) : Prop :=
  e.content.slot = e.slot ∧ (∀ c ∈ e.pending, c.slot = e.slot) ∧ classCode e.cls ≤ classCode e.slot.cls
    ∧ e.losses ≤ 15 ∧ e.abandons ≤ 8 ∧ (e.state = .waiting → e.pending = none ∧ e.withdrawn = false)

/-- The transmit queue keeps the holding rules of R13, its entries are as R12 describes them, and the one entry on the
line stands as the transmitter does. -/
abbrev Lif.ok (l : Lif) : Prop :=
  (∀ e ∈ l.queue, e.ok ∧ l.filled e.slot ≤ e.slot.limit.getD 1)
    ∧ (l.queue.filter fun e => e.state != .waiting).map (·.state) = l.tx.onLine
    ∧ (l.tx = .off → l.queue = [])
    ∧ l.failures ≤ 255 ∧ l.testSequence ≤ 255 ∧ (l.attemptOpen = true → l.txFault = true)

/-- The Line Interface of a station that has not entered JOINING holds no entry and sends nothing. -/
abbrev State.lineOk (s : State) : Prop :=
  s.sequenced ∧ s.lif.ok ∧ (s.entered = false → s.lif.queue = [] ∧ (s.lif.tx = .ready ∨ s.lif.tx = .off))

/-! ## The station's own STATUS and roster record (R29, R31) -/

/-- A queued STATUS, and once the station has entered JOINING the own roster record, carry the station's values as they
now stand. -/
abbrev State.settled (s : State) : Prop :=
  (∀ e ∈ s.lif.inSlot .status, e.latest = .status s.statusReport)
    ∧ (s.entered = true → ∀ n ∈ s.ssu.station, ∀ r ∈ s.bdr.roster[n],
        r.floor = s.ownFloor ∧ r.lastEpoch = some s.rgu.epoch ∧ r.phase = some s.rgu.phase
          ∧ r.supply = some s.ssu.supply)

/-! ## Bulletins heard (R4, R10, R36) -/

/-- A bulletin of content `c` that ends is another station's, or it is the own one, heard back at the stop bit that
completes it. -/
abbrev State.hears (s : State) (c : Content) : Prop :=
  s.lif.tx ≠ .sending ∨ (s.lineOk ∧ ∃ e ∈ s.lif.onLine, e.content = c)

/-- The entry that has joined anew at a moment with the content that was queued behind the one sent (R10). -/
def TxEntry.anew (e : TxEntry) (c : Content) (now : Time) : TxEntry where
  slot := e.slot
  content := c
  pending := none
  cls := e.slot.cls
  age := now
  losses := 0
  abandons := 0
  state := .waiting
  withdrawn := false

/-- A PRESENT record of station `n` names a floor that the PRESENT record of another station names (R36). -/
abbrev State.sharesFloor (s : State) (n : Sender) : Prop :=
  ∃ r ∈ s.bdr.roster[n], r.presence = .present ∧ ∃ f ∈ r.floor,
    ∃ m : Sender, m ≠ n ∧ ∃ x ∈ s.bdr.roster[m], x.presence = .present ∧ x.floor = some f

/-! ## The regime (R65, R73, R80) -/

/-- The own contribution set holds at most 16 entries and no entry twice (R65). -/
abbrev State.ownSetOk (s : State) : Prop := s.rgu.own.length ≤ setLimit ∧ s.rgu.own.Nodup

/-- The own floor is in EVACUATE exactly when it is in the released set; a station that does not know its own floor is
in NORMAL or ALERT; and there is a claim mode exactly in CLAIMING. -/
abbrev State.phaseAgrees (s : State) : Prop :=
  (s.entered = true →
    (∀ f ∈ s.ownFloor, s.rgu.phase = .evacuate ↔ flagged s.sau.released f = true)
      ∧ (s.ownFloor = none → s.rgu.phase = .normal ∨ s.rgu.phase = .alert))
    ∧ (s.rgu.phase = .claiming ↔ s.rgu.mode ≠ .none)

/-! ## The claim (R72, R75 to R77, R81, R82, R97 to R100) -/

/-- Floor `f` is in the neighbourhood (R72). -/
abbrev State.neighbour (s : State) (f : Floor) : Prop :=
  s.rgu.map.general = true ∨ ∃ a ∈ s.rgu.map.fires,
    (a.floor.val ≤ f.val ∧ f.val ≤ a.floor.val + s.ssu.config.reachAbove)
      ∨ (a.floor.val - s.ssu.config.reachBelow ≤ f.val ∧ f.val ≤ a.floor.val)

/-- The release key of a floor (R81): its distance, its side, and the floor in descending order. -/
def FloorMap.key (m : FloorMap) (f : Floor) : List Nat :=
  let d := ((m.fires.map fun a => max a.floor.val f.val - min a.floor.val f.val).min?).getD 0
  [d, if 0 < d ∧ ∃ a ∈ m.fires, a.floor.val + d = f.val then 0 else 1, 63 - f.val]

/-- A PRESENT record names the floor (R35). -/
abbrev State.onRoster (s : State) (f : Floor) : Prop :=
  ∃ n : Sender, ∃ r ∈ s.bdr.roster[n], r.presence = .present ∧ r.floor = some f

/-- Floor `f` is eligible where fire is in view and GENERAL is no: an unreleased roster floor, ahead of which no other
stands in the order of the keys (R82). -/
abbrev State.firstInOrder (s : State) (f : Floor) : Prop :=
  s.onRoster f ∧ flagged s.sau.released f = false
    ∧ ∀ g : Floor, s.onRoster g → flagged s.sau.released g = false → ¬ s.rgu.map.key g < s.rgu.map.key f

/-- The verdict on the split is FITS (R97). -/
abbrev State.splitFits (s : State) : Prop :=
  ∀ st : Stair, s.split[st] = 0 ∨ s.sau.load st = 0 ∨ s.sau.load st + s.split[st] ≤ s.ssu.config.capacity[st]

/-- The station holds its claim for floor `f` (R75, R76, R98, R99): CLAIMING in the mode, with the claim record QUEUED
and the RELEASE slot filled with the present content; a fresh entry where the slot was free, else the entry that filled
it, whose content on the line stays as it is (R14). -/
abbrev State.claimHeld (s t : State) (f : Floor) (forced : Bool) : Prop :=
  let content : Release :=
    { epoch := t.rgu.epoch, floor := f, forced := forced, counts := t.split.toList.take t.ssu.config.stairCount }
  t.rgu.phase = .claiming ∧ t.rgu.mode = (if forced then .forced else .nonForced)
    ∧ t.sau.claim = { state := .queued, mode := if forced then .forced else .nonForced, content := content
                      oldCopy := s.sau.claim.oldCopy }
    ∧ ∃ k ∈ t.lif.inSlot .release, k.latest = .release content
      ∧ (s.lif.inSlot .release = none → k = newTxEntry (.release content) t.now)
      ∧ ∀ e ∈ s.lif.inSlot .release,
          k.state = e.state ∧ k.age = e.age ∧ k.cls = e.cls ∧ (e.state ≠ .waiting → k.content = e.content)

/-- Fire is in view (R70). -/
abbrev State.fireInView (s : State) : Prop := s.rgu.map.general = true ∨ s.rgu.map.fires ≠ []

/-- The own floor `f` may claim without a fire near it: it is eligible and its split FITS (R75, R76). -/
abbrev State.admits (s : State) (f : Floor) : Prop := s.firstInOrder f ∧ s.splitFits

/-- The claim record and the RELEASE slot stand as they stood. -/
abbrev State.claimLeft (s t : State) : Prop :=
  t.sau.claim = s.sau.claim ∧ t.lif.inSlot .release = s.lif.inSlot .release

/-- The evaluation in NORMAL and ALERT, for an unreleased own floor `f` on the view of the state `t` that it leaves: a
claim is made, FORCED in the neighbourhood, else NON_FORCED where the floor is eligible and FITS and the station is not
JOINING; an offer that is refused leaves ALERT (R75). -/
abbrev State.claimAsked (s t : State) (f : Floor) : Prop :=
  (¬ t.fireInView → t.rgu.phase = .normal ∧ t.rgu.mode = .none ∧ s.claimLeft t)
  ∧ (t.fireInView → (t.neighbour f ∨ (s.ssu.join ≠ .joining ∧ t.admits f)) → s.lif.tx ≠ .off →
      s.claimHeld t f (decide (t.neighbour f)))
  ∧ (t.fireInView → (s.lif.tx = .off ∨ (¬ t.neighbour f ∧ (s.ssu.join = .joining ∨ ¬ t.admits f))) →
      t.rgu.phase = .alert ∧ t.rgu.mode = .none ∧ t.sau.claim.state = s.sau.claim.state
        ∧ t.lif.inSlot .release = s.lif.inSlot .release)

/-- The evaluation in CLAIMING takes the claim back: no fire is in view, or the re-check of a NON_FORCED one fails (R76,
R77). -/
abbrev State.claimGoes (s t : State) (f : Floor) : Prop :=
  ¬ t.fireInView ∨ (s.rgu.mode = .nonForced ∧ ¬ t.neighbour f ∧ ¬ t.admits f)

/-- The phase that a claim taken back leaves (R76, R77). -/
abbrev State.claimLeaves (t : State) : Prop :=
  (t.fireInView → t.rgu.phase = .alert) ∧ (¬ t.fireInView → t.rgu.phase = .normal) ∧ t.rgu.mode = .none

/-- The evaluation in CLAIMING of a QUEUED claim whose entry is `e`: the claim is kept or made forced, or it is
withdrawn, with the answer that the state of its entry gives (R15, R76, R77, R99, R100). -/
abbrev State.claimRechecked (s t : State) (f : Floor) (e : TxEntry) : Prop :=
  (¬ s.claimGoes t f → s.claimHeld t f (decide (s.rgu.mode = .forced ∨ t.neighbour f)))
  ∧ (s.claimGoes t f → e.state = .waiting →
      t.claimLeaves ∧ t.sau.claim.state = .none ∧ t.sau.claim.oldCopy = false ∧ t.lif.inSlot .release = none)
  ∧ (s.claimGoes t f → e.state ≠ .waiting → t.lif.inSlot .release = some { e with pending := none, withdrawn := true })
  ∧ (s.claimGoes t f → e.state ≠ .waiting → s.sau.claim.oldCopy = false →
      t.rgu.phase = .claiming ∧ t.rgu.mode = s.rgu.mode
        ∧ t.sau.claim = { s.sau.claim with state := if e.state = .sending then .fixed else .queued })
  ∧ (s.claimGoes t f → e.state = .sending → s.sau.claim.oldCopy = true →
      t.claimLeaves ∧ t.sau.claim = { s.sau.claim with state := .none })

/-- The evaluation of the phase decides the claim for an unreleased own floor `f`, from the state `s` and on the view of
the state `t` that it leaves, with what the claim record and the RELEASE slot then hold; a FIXED claim stays (R75 to R77,
R98 to R100). -/
abbrev State.claimDecided (s t : State) (f : Floor) : Prop :=
  (s.rgu.phase = .normal ∨ s.rgu.phase = .alert → s.claimAsked t f)
  ∧ (s.rgu.phase = .claiming → s.rgu.mode ≠ .none → s.sau.claim.state = .queued → ∀ e ∈ s.lif.inSlot .release,
      e.latest = .release s.sau.claim.content → (e.state = .arbitrating → e.withdrawn = false) →
      s.claimRechecked t f e)
  ∧ (s.rgu.phase = .claiming → s.sau.claim.state = .fixed →
      t.rgu.phase = .claiming ∧ t.rgu.mode = s.rgu.mode ∧ s.claimLeft t)

/-! ## The stair queues (R92, R102, R107, R108) -/

/-- A record of a stair queue holds somebody, belongs to the own epoch, and names a floor of the released set. -/
abbrev State.queuesOk (s : State) : Prop :=
  ∀ st : Stair, (∀ q ∈ s.sau.queues[st], 1 ≤ q.persons ∧ q.epoch = s.rgu.epoch ∧ ∀ f ∈ q.floor, flagged s.sau.released f = true)
    ∧ (s.sau.queues[st].map (·.floor)).Nodup

/-- The stair view as a STATUS leaves it where it is taken over a view `u` (R108): the released floors joined, the logged
stairs SMOKE_LOGGED, one synthetic record for each stair, and the own assigned stairs by the split where the own floor is
released and had none. -/
abbrev State.holdsView (t : State) (u : Sau) (r : StatusReport) : Prop :=
  t.sau.released = u.released ||| r.released
    ∧ (∀ st : Stair, t.sau.status[st] = if t.hasStair st ∧ r.logged[st] = true then .smokeLogged else u.status[st])
    ∧ (∀ st : Stair,
        let persons := min r.loads[st] (1023 * flagCount t.sau.released)
        t.sau.queues[st] =
          if t.hasStair st then (if persons = 0 then [] else [⟨none, persons, t.rgu.epoch⟩]) else u.queues[st])
    ∧ t.sau.assigned =
        if t.ownReleased = true ∧ u.assigned = [] then
          (List.finRange 4).filter fun st => 0 < t.split[st]
        else u.assigned

/-! ## The leaves (R114, R115, R116, R121) -/

/-- Every leaf has the commands that the lists of R114 and R115 give, and a security override only where its leaf may
have one. -/
abbrev State.leavesAgree (s : State) : Prop :=
  ∀ st : Stair, ∀ l ∈ s.lfc.leaves[st],
    (s.entered = true →
      l.lock = s.lockCommand st l.security ∧ l.hold = s.holdCommand st
        ∧ (l.security ≠ .none → s.rgu.phase = .normal ∧ s.sau.status[st] = .inService))
      ∧ (s.entered = false → l.security = .none)

/-! ## The phase program (R165) and the speaker queue (R159) -/

/-- The phase program is the one that phase, alert silence and supply give. -/
abbrev State.programAgrees (s : State) : Prop := s.entered = true → s.pbu.program = s.derivedProgram

/-- The speaker queue holds at most 32 clips, and no announcement without one. -/
abbrev State.speakerOk (s : State) : Prop := s.pbu.queued ≤ clipLimit ∧ ∀ a ∈ s.pbu.queue, a.clips ≠ []

/-! ## The lifts (R128, R129, R132, R135, R143) -/

/-- A car as its bank's recall leaves it. -/
abbrev CarRecord.ok (r : BankRecord) (k : CarRecord) : Prop :=
  (k.state = .normal ∨ k.state = .firefighter → k.output = .none)
    ∧ (k.state = .recalling → k.output = landingOutput r.landing)
    ∧ (k.timer.isSome = true → k.state = .recalling)
    ∧ (r.cause = .none → k.state = .normal ∨ k.state = .firefighter)
    ∧ (r.cause ≠ .none → k.state ≠ .normal)

/-- A bank's cause, landing, hat and cars agree with its latch, its flag and its alarm. -/
abbrev BankRecord.ok (cfg : BankConfig) (r : BankRecord) : Prop :=
  r.cause = r.derivedCause ∧ (r.landing = .none ↔ r.cause = .none) ∧ r.hat = hatOf r.cause r.alarm
    ∧ (r.hat = .off → r.hatOn = false) ∧ (r.hat = .steady → r.hatOn = true)
    ∧ ∀ c : Car, hasCar cfg c = true → r.cars[c].ok r

/-- Every bank record belongs to a bank of the configuration, and is as R128 to R143 leave it. -/
abbrev State.liftsAgree (s : State) : Prop :=
  ∀ b : Bank, s.lfu.banks[b].isSome = s.ssu.config.banks[b].isSome
    ∧ ∀ cfg ∈ s.ssu.config.banks[b], ∀ r ∈ s.lfu.banks[b], r.ok cfg

/-- The car as it stands when it has entered RECALLING at a moment, with its inputs examined (R136, R137, R138, R140). -/
def CarRecord.recalled (k : CarRecord) (landing : Landing) (now : Time) : CarRecord :=
  let output : RecallOutput := if landing = .alternate then .alt else .main
  if k.available = false then { k with state := .withdrawn, output := output, timer := none }
  else if k.parked = false then { k with state := .recalling, output := output, timer := some now }
  else if k.key = true then { k with state := .firefighter, output := .none, timer := none }
  else { k with state := .parked, output := output, timer := none }

/-- The LIFT of a bank after an event (R144): offered with the bank as it stands where the event changed its cause, its
landing or the state of a car, and else left. -/
abbrev State.liftFollows (s t : State) (b : Bank) (cfg : BankConfig) (r k : BankRecord) : Prop :=
  if k.landing = r.landing ∧ k.cause = r.cause ∧ ∀ c : Car, c.val < cfg.carCount → k.cars[c].state = r.cars[c].state then
    t.lif.inSlot (.lift b) = s.lif.inSlot (.lift b)
  else s.lif.tx ≠ .off → ∃ x ∈ t.lif.inSlot (.lift b), x.latest = .lift
    { bank := b, landing := k.landing, cause := k.cause
      cars := ((List.finRange 4).filter fun c => c.val < cfg.carCount).map fun c => k.cars[c].state }

/-- Every bank follows a change of the floor condition map (R130, R132 to R134): fire that comes into view sets its fire
latch, and starts its recall where it had none; a lobby fire change redirects it from a landing in fire; and its LIFT
follows. -/
abbrev State.recallsFollow (s t : State) : Prop :=
  let lobby (s : State) (f : Floor) : Prop := ∃ a ∈ s.rgu.map.fires, a.floor = f ∧ a.lobby = true
  let comes := t.fireInView ∧ ¬ s.fireInView
  ∀ b : Bank, ∀ cfg ∈ s.ssu.config.banks[b], ∀ r ∈ s.lfu.banks[b], ∃ k ∈ t.lfu.banks[b],
    let designated := lobby t cfg.designated
    let alternate := lobby t cfg.alternate
    k.manual = r.manual ∧ k.fireLatch = decide (r.fireLatch = true ∨ comes)
      ∧ k.cause = (if k.fireLatch then .fire else if k.manual then .manual else .none)
      ∧ (r.cause = .none → comes →
          k.landing = (if designated ∧ ¬ alternate then .alternate else .designated)
            ∧ (∀ c : Car, c.val < cfg.carCount → k.cars[c] =
                if r.cars[c].state = .normal then r.cars[c].recalled k.landing t.now else r.cars[c])
            ∧ t.active (.bank b) .noSafeLanding = decide (designated ∧ alternate))
      ∧ (r.cause ≠ .none → r.landing = .designated → designated → ¬ alternate →
          (¬ lobby s cfg.designated ∨ lobby s cfg.alternate) →
          k.landing = .alternate
            ∧ (∀ c : Car, c.val < cfg.carCount → k.cars[c] =
                if r.cars[c].state = .recalling then { r.cars[c] with output := .alt, timer := some t.now } else r.cars[c])
            ∧ t.active (.bank b) .noSafeLanding = false)
      ∧ (k.cause = .none ∨ (r.cause ≠ .none ∧ ¬ (r.landing = .designated ∧ designated ∧ ¬ alternate)) →
          k.landing = r.landing ∧ ∀ c : Car, c.val < cfg.carCount → k.cars[c] = r.cars[c])
      ∧ s.liftFollows t b cfg r k

/-! ## What bulletins and frames can carry (R39, R40) -/

/-- A content within the ranges of R39, as every sender composes it. -/
def Content.inRange : Content → Bool
  | .condition e l => e < 65536 && l.length ≤ 16
  | .stair e _ _ => e < 65536
  | .release r => r.epoch < 65536 && 1 ≤ r.counts.length && r.counts.length ≤ 4 && r.counts.all fun n => n ≤ 1023
  | .regimeReset e level => 1 ≤ e && e < 65536 && 1 ≤ level && level ≤ 4
  | .command _ level => 1 ≤ level && level ≤ 4
  | .pageStart .all => true
  | .pageStart (.floors f) => f != 0
  | .pageStop => true
  | .lift l => 1 ≤ l.cars.length && l.cars.length ≤ 4
  | .status r => r.epoch < 65536 && r.loads.toList.all (fun n => n < 65536) && r.contributions.length ≤ 16
  | .test n => n < 256

/-- The request frame that a command brings to the port: its time, its code and its parameter bytes. -/
def requestFrame : Instr → Option (Nat × Byte × List Byte)
  | .queryView dt p => some (dt, 0x01, p)
  | .queryEvents dt p => some (dt, 0x02, p)
  | .queryStairs dt p => some (dt, 0x03, p)
  | .acknowledge dt p => some (dt, 0x11, p)
  | .silenceAlert dt p => some (dt, 0x12, p)
  | .unlockStairs dt p => some (dt, 0x13, p)
  | .securityLock dt p => some (dt, 0x14, p)
  | .securityFree dt p => some (dt, 0x15, p)
  | .startPage dt p => some (dt, 0x16, p)
  | .stopPage dt p => some (dt, 0x17, p)
  | .resetRegime dt p => some (dt, 0x21, p)
  | .isolatePoint dt p => some (dt, 0x22, p)
  | .restorePoint dt p => some (dt, 0x23, p)
  | .manualRecall dt p => some (dt, 0x24, p)
  | .cancelRecall dt p => some (dt, 0x25, p)
  | .testAnnounce dt p => some (dt, 0x26, p)
  | .setBuzzerMask dt p => some (dt, 0x27, p)
  | .forceCheckError dt p => some (dt, 0x31, p)
  | .restartStation dt p => some (dt, 0x32, p)
  | .invoke dt p => some (dt, 0x40, p)
  | .requestCodeUnknown dt code p => if knownCode code then none else some (dt, code, p)
  | _ => none

/-- The commands that return the station to its reset state (R212). -/
def restarts (i : Instr) (s : State) : Bool :=
  match i with
  | .powerOn _ | .pinReset _ => true
  | .answerSent _ _ => s.cpt.inHand.any fun h => h.restart && h.answer.isSome
  | _ => false

/-! ## The supply (R211) -/

/-- The supply state is the one that the two roles give. -/
abbrev State.supplyAgrees (s : State) : Prop := s.ssu.supply = supplyOf s.ssu.mainsFailed s.ssu.batteryLow

end Sys2Proof.Machine
end

