-- ==== Sys2Proof/Certificates/Slice0/Obligations.lean ====
section
/-! DEFINITION. The statements about the NW460 that are to be proved. Each says in its docstring which part of the
manual it formalises; the log entries it names are those of notes/assumptions. -/

section

open Sys2Proof Sys2Proof.Machine

/-! ## The queue of commands -/

/-- A step runs the command at the front of the queue, and with no command waiting the station idles. The queue is the
model's own (log entry 1). -/
def Obligations.FrontCommandRuns : Prop :=
  (∀ (c : Instr) (s : State), step { s with pending := c :: s.pending } = exec c s)
    ∧ ∀ s : State, s.pending = [] → step s = .next s

/-! ## Start-up (chapter 12) -/

/-- POWER_ON and PIN_RESET return every block to its reset values, whatever it was doing (R21, R191, R212); that the
rhythm of the lamps runs on through a pin reset is the model's reading (log entry 17), and the configured values that
stand until the image is read are its choice (log entry 3). RESET_RELEASE then starts the start sequence: the straps
give the station's number, and a listen-only station has its transmitter OFF (R206, section 1.2). That a station that
runs takes no notice of it but for its clock is the model's choice (log entries 1 and 28). -/
def Obligations.ResetsBeginStart : Prop :=
  ∀ (dt : Nat) (straps : Fin 64) (s : State),
    exec (.powerOn dt) s = .next { State.reset with
        now := s.now + dt, startedAt := s.now + dt, eva := { Eva.reset with lampFrom := s.now + dt }, pending := s.pending }
      ∧ exec (.pinReset dt) s = .next { State.reset with
          now := s.now + dt, startedAt := s.now + dt
          eva := { Eva.reset with lampOn := s.eva.lampOn, lampFrom := s.eva.lampFrom }, pending := s.pending }
      ∧ (s.live = true → exec (.resetRelease dt straps) s = .next (s.after dt))
      ∧ (s.live = false → ∃ t, exec (.resetRelease dt straps) s = .next t
          ∧ t = { s.after dt with
              ssu := { s.ssu with stage := .image, station := t.ssu.station }
              lif := { s.lif with tx := if straps = 0 then .off else .ready } }
          ∧ (straps = 0 → t.ssu.station = none)
          ∧ (straps ≠ 0 → ∃ n, t.ssu.station = some n ∧ number n = straps.val))

/-- CONFIG_IMAGE_READ gives every block its values: those of the image where it is good, else those of the
UNCONFIGURED station, with CONFIG_BAD (R207, R208); a leaf record for each stair with an output, a bank record for each
bank named (R112, R127), and the delegation table of a good image, in which an entry that R204 does not allow is not
present and counts as dropped; at an UNCONFIGURED station the table stays as it was. Nothing else changes. -/
def Obligations.ImageTaken : Prop :=
  ∀ (dt : Nat) (image : Option ConfigImage) (s : State), s.ssu.stage = .image → s.entered = false →
    ∃ t, exec (.configImageRead dt image) s = .next t
      ∧ t.ssu = { s.ssu with config := (configure image).1, stage := .phraseTable }
      ∧ (∀ st : Stair, t.lfc.leaves[st] = if hasLeaf t.ssu.config st then some .reset else none)
      ∧ (∀ b : Bank, t.lfu.banks[b] = if t.ssu.config.banks[b].isSome then some .reset else none)
      ∧ (t.ssu.config.unconfigured = true → t.cpt = s.cpt)
      ∧ (∀ im, image = some im → t.ssu.config.unconfigured = false →
        (∀ i : Fin 16,
          (im.station.delegation[i] = none → t.cpt.delegation[i] = none)
            ∧ ∀ r, im.station.delegation[i] = some r →
              (∀ q, readRequest r.code r.params = some q → (∀ n, q ≠ .invoke n) → 1 ≤ r.level → r.level ≤ 4 →
                t.cpt.delegation[i] = some { code := r.code, params := r.params, request := q, level := r.level })
              ∧ ((readRequest r.code r.params = none ∨ (∃ n, readRequest r.code r.params = some (.invoke n))
                  ∨ r.level = 0 ∨ 4 < r.level) → t.cpt.delegation[i] = none))
          ∧ t.cpt.dropped = ((List.finRange 16).filter fun i =>
              im.station.delegation[i].isSome && t.cpt.delegation[i].isNone).length)
      ∧ t.active (.internal .config) .configBad
          = (t.ssu.config.unconfigured || s.active (.internal .config) .configBad)
      ∧ (∀ src, src ≠ .internal .config → t.eva.entry src = s.eva.entry src)
      ∧ (t.ssu.config.unconfigured = false → t.eva = s.eva)
      ∧ t.eva.mask = s.eva.mask ∧ t.eva.lampOn = s.eva.lampOn ∧ t.eva.lampFrom = s.eva.lampFrom
      ∧ t = { s.after dt with
          ssu := t.ssu, lfc := { s.lfc with leaves := t.lfc.leaves }, lfu := t.lfu
          cpt := { s.cpt with delegation := t.cpt.delegation, dropped := t.cpt.dropped }, eva := t.eva }

/-- An image that is taken as good agrees in its check and holds every value in the range of section 12.2, and each value
that the blocks receive is the image's: occupancy and shares where an own floor is given, the digest the check code over
the building-wide part. Every image whose check agrees and whose values lie in their ranges is taken. A known own floor
with every share 0 makes the station UNCONFIGURED even so, and every other image, like none at all, does too; it then
works with the values that R208 lists, and their digest (R207, R208). The occupancy, shares and re-entry floor of an
UNCONFIGURED station, and the first two at a station that serves no floor, are the model's choice (log entry 45). -/
def Obligations.GoodImageInRange : Prop :=
  (∀ (im : ConfigImage) (cfg : StationConfig), readImage im = some cfg →
    im.checkAgrees = true ∧ valuesInRange cfg ∧ imageHolds im cfg)
    ∧ (∀ (im : ConfigImage) (cfg : StationConfig), im.checkAgrees = true → valuesInRange cfg → imageHolds im cfg →
      readImage im = some cfg)
    ∧ (∀ (im : ConfigImage) (cfg : StationConfig), readImage im = some cfg →
      configure (some im) =
        if (∃ f : Floor, cfg.ownFloor = some f) ∧ ∀ st : Stair, cfg.shares[st] = 0 then (unconfiguredConfig, none)
        else (cfg, some im.station.delegation))
    ∧ configure none = (unconfiguredConfig, none)
    ∧ (∀ im : ConfigImage, (im.checkAgrees = false ∨ readImage im = none) → configure (some im) = (unconfiguredConfig, none))
    ∧ unconfiguredConfig =
      { unconfigured := true, stairCount := 4, capacity := Vector.replicate 4 4095, drain := Vector.replicate 4 1
        drainTick := 4, reachAbove := 1, reachBelow := 1, refresh := 20, ownFloor := none, occupancy := 0
        shares := Vector.replicate 4 0, reentryFloor := false, points := Vector.replicate 32 ⟨.detector 0, false, false⟩
        outputs := Vector.replicate 24 .none, codes := Vector.replicate 32 none, speakers := 1
        banks := Vector.replicate 2 none, gap := 8
        digest := checkCode (digestBytes
          { stairCount := 4, capacity := Vector.replicate 4 4095, drain := Vector.replicate 4 1, drainTick := 4
            reachAbove := 1, reachBelow := 1, refresh := 20 }) }

/-- PHRASE_TABLE_LOAD loads the table and takes the station into JOINING: the timers start, the own roster record is
made, the phase and the program stand as after reset, and the transmit queue holds exactly the LIFT of each configured
bank, bank 1 first; none at a listen-only station (R144, R147, R206). The premises on the blocks hold in every start
sequence. -/
def Obligations.TableLoadEntersJoining : Prop :=
  ∀ (dt : Nat) (im : PhraseImage) (s : State), s.ssu.stage = .phraseTable → s.entered = false → s.rgu = .reset →
    s.sau = .reset → s.pbu = .reset → s.lif.queue = [] → s.bdr = .reset →
    ∃ t, exec (.phraseTableLoad dt im) s = .next t
      ∧ t.ssu = { s.ssu with join := .joining, stage := .done, expiries := 0 }
      ∧ t.acu = loadTable im s.ssu.config s.acu
      ∧ (t.active (.internal .clipStore) .phraseTableBad
          = (t.acu.state != .good || s.active (.internal .clipStore) .phraseTableBad))
      ∧ t.bdr.refreshNext = some (s.now + dt + seconds s.ssu.config.refresh)
      ∧ t.sau = { Sau.reset with drainNext := some (s.now + dt + seconds s.ssu.config.drainTick) }
      ∧ t.rgu = .reset ∧ t.pbu = .reset
      ∧ (∀ n ∈ s.ssu.station, t.bdr.roster[n] = some
          { floor := s.ownFloor, presence := .present, silent := 0, lastEpoch := some 0, digestAgrees := true
            phase := some .normal, supply := some s.ssu.supply })
      ∧ (s.lif.tx ≠ .off →
          t.lif.queue = ((List.finRange 2).filterMap s.lift?).map fun l => newTxEntry (.lift l) (s.now + dt))
      ∧ (s.lif.tx = .off → t.lif.queue = [])

/-! ## The riser line (chapter 1) -/

/-- The receiver leaves SEEKING and DISCARDING at a gap, and IDLE at a dominant level; the hold is FREE again after
three further gaps of idle line, and not before (R2, R17). -/
def Obligations.ReceiverFollowsLine : Prop :=
  ∀ (dt : Nat) (s : State), s.live = true → s.settled →
    ((s.lif.rx = .seeking ∨ s.lif.rx = .discarding ∨ (s.lif.rx = .idle ∧ s.lif.lineIdle = false)) →
      exec (.receiverIdle dt) s = .next { s.after dt with
        lif := { s.lif with rx := .idle, lineIdle := true, holdFrom := some (s.now + dt) } })
      ∧ (s.lif.rx = .idle →
        exec (.startBitRead dt) s = .next { s.after dt with
          lif := { s.lif with rx := .receiving, lineIdle := false, holdFrom := none } })
      ∧ (∀ since, s.entered = true → s.lif.held = true → s.lif.rx = .idle → s.lif.lineIdle = true →
        s.lif.holdFrom = some since →
        exec (.holdGapRelease dt) s = .next { s.after dt with
          lif := { s.lif with held := decide (s.now + dt < since + 33) } })

/-- A READY transmitter starts the head entry on an idle line, and only then (R7). That the line must have been read idle
for a gap, and not only the receiver be IDLE, is the model's reading (log entry 34). -/
def Obligations.TransmitterStartsHead : Prop :=
  ∀ (dt : Nat) (s : State), s.serving → s.settled →
    (∀ e, headEntry s.lif.queue = some e → s.lif.tx = .ready → s.lif.rx = .idle → s.lif.lineIdle = true →
      (s.lif.held = false ∨ e.cls = .fire) → (s.lif.txFault = false ∨ s.lif.attemptOpen = true) →
      exec (.transmitStart dt) s = .next { s.after dt with
        lif := { s.lif with
          queue := changeFirst (fun x => x == e) (fun x => { x with state := .arbitrating }) s.lif.queue
          tx := .arbitrating, txFrom := s.now + dt, rx := .receiving, lineIdle := false, holdFrom := none } })
      ∧ ((s.lif.queue = [] ∨ s.lif.tx ≠ .ready ∨ s.lif.rx ≠ .idle ∨ s.lif.lineIdle = false
          ∨ (s.lif.held = true ∧ ∀ e, headEntry s.lif.queue = some e → e.cls ≠ .fire)
          ∨ (s.lif.txFault = true ∧ s.lif.attemptOpen = false)) →
        exec (.transmitStart dt) s = .next (s.after dt))

/-- A lost arbitration returns the entry to WAITING with its loss counted: at the 16th the count returns to 0 and the
class becomes one step more urgent, up to REGIME; a replacing content that was held is taken, with the count at 0. A
won one takes the transmitter and its entry to SENDING (R8, R14, R18). An entry that was withdrawn is removed at the end
of a lost byte, unless a content was offered for it after the withdrawal, which takes its place; a won byte sends it
unchanged (R15). The block that withdrew it is then answered: an own page request that waited for its late entry becomes
NONE (R176, R177); a claim becomes NONE at a lost byte, and the phase ALERT, in which it is decided anew at once, and
FIXED at a won one (R76, R77, R100); and an old copy is gone at a lost byte, and stands on the line at a won one (R109).
That the answer to a withdrawal of an ARBITRATING entry is open until the byte ends, with LATE or STOP_LATE held until
then, and that the evaluation follows at once, is the model's reading (log entries 18 and 19). -/
def Obligations.ArbitrationDecides : Prop :=
  ∀ (dt : Nat) (s : State) (e : TxEntry), s.serving → s.settled → s.lif.tx = .arbitrating →
    s.lif.onLine = some e →
    (e.withdrawn = false →
    exec (.arbitrationLost dt) s = .next { s.after dt with
      lif := { s.lif with
        tx := .ready
        queue := replaceOnLine (some { e with
          content := e.pending.getD e.content
          pending := none
          losses := if e.pending.isSome then 0 else if e.losses + 1 < 16 then e.losses + 1 else 0
          cls := if e.losses + 1 < 16 then e.cls else
            match e.cls with
            | .routine => .status
            | .status => .regime
            | .regime => .regime
            | .fire => .fire
          state := .waiting }) s.lif.queue } }
      ∧ exec (.arbitrationWon dt) s = .next { s.after dt with
        lif := { s.lif with tx := .sending, queue := replaceOnLine (some { e with state := .sending }) s.lif.queue } })
    ∧ (e.withdrawn = true → s.lineOk →
      let lost := { s.after dt with
        lif := { s.lif with
          tx := .ready
          queue := match e.pending with
            | none => removeFirst (fun x => x.state != .waiting) s.lif.queue
            | some c => replaceOnLine (some { e with
                content := c, pending := none, losses := 0
                cls := if e.losses + 1 < 16 then e.cls else
                  match e.cls with
                  | .routine => .status
                  | .status => .regime
                  | .regime => .regime
                  | .fire => .fire
                state := .waiting, withdrawn := false }) s.lif.queue } }
      let won := { s.after dt with
        lif := { s.lif with tx := .sending, queue := replaceOnLine (some { e with state := .sending }) s.lif.queue } }
      (e.slot ≠ .release → exec (.arbitrationWon dt) s = .next won)
      ∧ (e.slot ≠ .release → e.slot ≠ .page → exec (.arbitrationLost dt) s = .next lost)
      ∧ (e.slot = .page → ∃ t, exec (.arbitrationLost dt) s = .next t
          ∧ t = { lost with pbu := { s.pbu with ownRequest := t.pbu.ownRequest }, eva := t.eva }
          ∧ t.pbu.ownRequest =
              (if s.pbu.ownRequest = .late ∨ s.pbu.ownRequest = .stopLate then .none else s.pbu.ownRequest))
      ∧ ∀ (r : Release) (f : Floor), e.content = .release r → f ∈ s.ownFloor → s.ssu.config.unconfigured = false →
          flagged s.sau.released f = false →
        (r.epoch < s.rgu.epoch →
          (∃ t, exec (.arbitrationLost dt) s = .next t
            ∧ (lost.setSau fun u => { u with claim := { u.claim with oldCopy := false } }).claimDecided t f
            ∧ t.lif.tx = .ready ∧ t.sau = { s.sau with claim := t.sau.claim })
          ∧ ∃ t, exec (.arbitrationWon dt) s = .next t
            ∧ (won.setSau fun u => { u with claim := { u.claim with oldCopy := true } }).claimDecided t f
            ∧ t.lif.tx = .sending ∧ t.sau = { s.sau with claim := t.sau.claim })
        ∧ (r.epoch = s.rgu.epoch → s.rgu.phase = .claiming → s.sau.claim.state = .queued →
          (∃ t, exec (.arbitrationLost dt) s = .next t
            ∧ ((lost.setSau fun u => { u with claim := { u.claim with state := .none } }).setRgu fun u =>
                { u with phase := .alert, mode := .none }).claimDecided t f
            ∧ t.lif.tx = .ready ∧ t.sau = { s.sau with claim := t.sau.claim })
          ∧ exec (.arbitrationWon dt) s
            = .next { won with sau := { s.sau with claim := { s.sau.claim with state := .fixed } } }))

/-- A bit error abandons the bulletin: an error break follows, the entry returns to WAITING with its abandonment
counted and its pending content taken, an open attempt closes, and the 8th abandonment raises LINE_TX (R9, R11); that a
further one raises it again is the model's choice (log entry 35). An entry that was withdrawn is removed instead, unless
a content was offered for it after the withdrawal, which is retried; the block that withdrew it is told so: a late page
request becomes NONE (R176, R177); a claim that was FIXED becomes NONE, and the phase ALERT, in which it is decided anew
at once; and an old copy is gone (R15, R76, R100, R109; the evaluation at once: log entry 18). The break ends after 12 bit
times. -/
def Obligations.BitErrorBreaks : Prop :=
  ∀ (dt : Nat) (s : State), s.serving → s.settled →
    (∀ e, (s.lif.tx = .arbitrating ∨ s.lif.tx = .sending) → s.lif.onLine = some e → e.withdrawn = false →
      let t := { s.after dt with
        lif := { s.lif with
          tx := .breaking, breakFrom := s.now + dt, attemptOpen := false
          txFault := s.lif.txFault || decide (8 ≤ e.abandons + 1)
          queue := replaceOnLine (some { e with
            content := e.pending.getD e.content, pending := none, abandons := min 8 (e.abandons + 1)
            state := .waiting }) s.lif.queue } }
      exec (.bitError dt) s = .next (if 8 ≤ e.abandons + 1 then raise (.internal .lineTx) .lineTx t else t))
      ∧ (∀ e, (s.lif.tx = .arbitrating ∨ s.lif.tx = .sending) → s.lif.onLine = some e → e.withdrawn = true → s.lineOk →
        let gone := { s.after dt with
          lif := { s.lif with
            tx := .breaking, breakFrom := s.now + dt, attemptOpen := false
            txFault := s.lif.txFault || decide (8 ≤ e.abandons + 1)
            queue := match e.pending with
              | none => removeFirst (fun x => x.state != .waiting) s.lif.queue
              | some c => replaceOnLine (some { e with
                  content := c, pending := none, abandons := min 8 (e.abandons + 1), state := .waiting
                  withdrawn := false }) s.lif.queue } }
        (e.slot ≠ .release → e.slot ≠ .page →
          exec (.bitError dt) s = .next (if 8 ≤ e.abandons + 1 then raise (.internal .lineTx) .lineTx gone else gone))
        ∧ (e.slot = .page → ∃ t, exec (.bitError dt) s = .next t
            ∧ t = { gone with pbu := { s.pbu with ownRequest := t.pbu.ownRequest }, eva := t.eva }
            ∧ (t.active (.internal .lineTx) .lineTx
                = (decide (8 ≤ e.abandons + 1) || s.active (.internal .lineTx) .lineTx))
            ∧ t.pbu.ownRequest =
                (if s.pbu.ownRequest = .late ∨ s.pbu.ownRequest = .stopLate then .none else s.pbu.ownRequest))
        ∧ ∀ (r : Release) (f : Floor), e.content = .release r → f ∈ s.ownFloor → s.ssu.config.unconfigured = false →
            flagged s.sau.released f = false →
          (r.epoch < s.rgu.epoch ∨ (r.epoch = s.rgu.epoch ∧ s.rgu.phase = .claiming ∧ s.sau.claim.state ≠ .none)) →
          ∃ t, exec (.bitError dt) s = .next t
            ∧ (if r.epoch < s.rgu.epoch then
                (gone.setSau fun u => { u with claim := { u.claim with oldCopy := false } }).claimDecided t f
              else ((gone.setSau fun u => { u with claim := { u.claim with state := .none } }).setRgu fun u =>
                { u with phase := .alert, mode := .none }).claimDecided t f)
            ∧ t.lif.tx = .breaking ∧ t.lif.txFault = gone.lif.txFault ∧ t.sau = { s.sau with claim := t.sau.claim })
      ∧ (s.lif.tx = .breaking →
        exec (.errorBreakEnd dt) s = .next { s.after dt with
          lif := { s.lif with tx := if s.lif.breakFrom + 12 ≤ s.now + dt then .ready else .breaking } })

/-- A bulletin that fails is discarded whole and counted once: the receiver goes as R3 gives, and the 8th in a refresh
period raises LINE_RX_DEGRADED (R3, R6). That complete bytes of another number than their length byte declares fail so,
and that an ending while SENDING leaves the entry on the line to a bit error, is the model's choice (log entry 13). -/
def Obligations.FailedBulletinCounts : Prop :=
  ∀ (dt : Nat) (ending : Ending) (s : State), s.live = true → s.settled → s.lif.rx = .receiving →
    (ending = .framing ∨ ending = .overLength ∨ ending = .truncated
      ∨ (s.lif.tx ≠ .sending ∧ ∃ bytes, ending = .complete bytes ∧ judge bytes = none)) →
    ∃ t, exec (.bulletinEnd dt ending) s = .next t
      ∧ t.lif = { s.lif with
          rx := if ending = .framing ∨ ending = .overLength then .discarding else .idle
          lineIdle := if ending = .truncated then true else if ending = .framing ∨ ending = .overLength then s.lif.lineIdle else false
          holdFrom := if ending = .truncated then some (s.now + dt)
            else if ending = .framing ∨ ending = .overLength then s.lif.holdFrom else none
          failures := min 255 (s.lif.failures + 1) }
      ∧ (t.active (.internal .lineRx) .lineRxDegraded
          = (decide (8 ≤ min 255 (s.lif.failures + 1)) || s.active (.internal .lineRx) .lineRxDegraded))
      ∧ t = { s.after dt with lif := t.lif, eva := t.eva }

/-- At the stop bit of its second check byte the own transmission is complete: the transmitter is READY, the hold HELD,
TX_FAULT and the attempt are over, and no entry stands on the line. The entry that was sent is no longer in the queue,
and the other entries of its slot stand as they stood; where it has pending content it has joined anew with it: at the
age of this moment, in the class of its kind, its counts 0 (R10; a STATUS with the present values, R29; a RELEASE is
withdrawn again, as the own floor is released, R100). The block that offered it is told: a COMMAND leaves the count of
those queued (R199), a STAIR ends its offer or leaves the one behind it (R90), a RELEASE of an older epoch ends the old
copy, and the claim is decided anew (R101, R109). No run leaves a content but a REGIME_RESET of a larger epoch than the
own one in the queue, or a claim at a configured station without an own floor, as the premises say. The content of an own CONDITION or STATUS goes to no block (R4, R26,
R66, R210), and an own TEST that passes its check raises CHECK_TEST_FAILED (R20). What the other kinds do when they are
heard back stands with their hearing. Where the bytes fail at every receiver the queue is, but for a RELEASE (whose claim
is evaluated again, R101), exactly the old one without the entry that was sent, with its pending content, where it has
one, joined anew at the end. A TEST that every receiver rejects has passed at its sender: CHECK_TEST_PASSED is recorded
and not left active, CHECK_TEST_FAILED is cleared, and the failed bulletin is counted (R6, R19, R20). That whatever bytes
are read back end the own bulletin is the model's choice (log entry 13). -/
def Obligations.OwnTransmissionCompletes : Prop :=
  ∀ (dt : Nat) (bytes : List Byte) (s : State) (e : TxEntry), s.serving → s.lineOk → s.lif.rx = .receiving →
    s.lif.tx = .sending → s.lif.onLine = some e →
    (∃ t, exec (.bulletinEnd dt (.complete bytes)) s = .next t
      ∧ t.lif.tx = .ready ∧ t.lif.held = true ∧ t.lif.txFault = false ∧ t.lif.attemptOpen = false
      ∧ t.lif.rx = .idle ∧ t.lif.lineIdle = false ∧ ∀ x ∈ t.lif.queue, x.state = .waiting)
    ∧ (s.settled → e.slot ≠ .release → judge bytes = none →
      ∃ t, exec (.bulletinEnd dt (.complete bytes)) s = .next t
        ∧ t.lif = { s.lif with
            rx := .idle, lineIdle := false, holdFrom := none, tx := .ready, held := true, txFault := false
            attemptOpen := false, failures := min 255 (s.lif.failures + 1)
            queue := s.lif.queue.filter (fun x => x.state == .waiting) ++
              match e.pending with
              | none => []
              | some c => [{ slot := e.slot, content := c, pending := none, cls := e.slot.cls, age := s.now + dt
                             losses := 0, abandons := 0, state := .waiting, withdrawn := false }] })
    ∧ (∀ n : Nat, s.settled → e.content = .test n → e.pending = none → judge bytes = none →
      s.active (.internal .lineRx) .checkTestPassed = false →
      ∃ t, exec (.bulletinEnd dt (.complete bytes)) s = .next t
        ∧ t.lif.inSlot .test = none ∧ t.lif.failures = min 255 (s.lif.failures + 1)
        ∧ t.active (.internal .lineRx) .checkTestFailed = false ∧ t.active (.internal .lineTx) .lineTx = false
        ∧ t.active (.internal .lineRx) .checkTestPassed = false
        ∧ (∃ x, t.eva.entry (.internal .lineRx) = some x ∧ Condition.checkTestPassed ∈ x.seen)
        ∧ t = { s.after dt with lif := t.lif, eva := t.eva })
    ∧ ∀ h : Heard, s.settled → judge bytes = some h → readPayload h.kind h.payload = some e.content →
      ∃ t, exec (.bulletinEnd dt (.complete bytes)) s = .next t
        ∧ t.cpt.commands = (if e.slot = .command then s.cpt.commands - 1 else s.cpt.commands)
        ∧ (∀ st : Stair, e.slot = .stair st → (∀ ep ∈ e.content.epoch?, ep ≤ s.rgu.epoch) →
            t.sau.smokeOffer[st] = e.pending.bind Content.epoch?)
        ∧ (e.slot = .test → t.active (.internal .lineRx) .checkTestFailed = true)
        ∧ ((∀ ep ∈ e.content.epoch?, ep ≤ s.rgu.epoch) ∨ e.slot = .regimeReset →
          (∀ r, e.content = .release r → r.epoch = s.rgu.epoch ∧ r.floor = s.claimFloor) →
          (e.pending = none → t.lif.queue.filter (fun x => x.slot == e.slot)
              = s.lif.queue.filter fun x => x.slot == e.slot && x.state == .waiting)
            ∧ (∀ c, e.pending = some c → e.slot.limit = none → e.slot ≠ .release → t.lif.inSlot e.slot
                = some (e.anew (if e.slot = .status then .status t.statusReport else c) (s.now + dt)))
            ∧ (e.slot = .release → s.sau.claim.state = .queued →
                (s.ownFloor ≠ none ∨ s.ssu.config.unconfigured = true) → t.lif.inSlot .release = none))
        ∧ (∀ (r : Release) (f : Floor), e.content = .release r → r.epoch < s.rgu.epoch → f ∈ s.ownFloor →
            s.ssu.config.unconfigured = false → flagged s.sau.released f = false →
            State.claimDecided { s.after dt with
              lif := { s.lif with
                rx := .idle, lineIdle := false, holdFrom := none, tx := .ready, held := true, txFault := false
                attemptOpen := false
                queue := s.lif.queue.filter (fun x => x.state == .waiting)
                  ++ (e.pending.map fun c => e.anew c (s.now + dt)).toList }
              sau := { s.sau with claim := { s.sau.claim with oldCopy := false } } } t f
            ∧ t.sau = { s.sau with claim := t.sau.claim })
        ∧ (e.slot = .condition ∨ e.slot = .status → (∀ ep ∈ e.content.epoch?, ep ≤ s.rgu.epoch) →
            t.rgu.stored = s.rgu.stored ∧ t.rgu.own = s.rgu.own ∧ t.rgu.map = s.rgu.map ∧ t.rgu.epoch = s.rgu.epoch
              ∧ t.rgu.silence = s.rgu.silence ∧ t.sau = { s.sau with claim := t.sau.claim } ∧ t.lfu = s.lfu
              ∧ t.ssu = s.ssu ∧ t.ptu = s.ptu ∧ t.bdr.summary = s.bdr.summary
              ∧ (s.isOwn h.sender = true → ∀ n : Sender, s.isOwn n = false → t.bdr.roster[n] = s.bdr.roster[n])
              ∧ ∀ n : Sender, t.active (.station n) .fireReported = s.active (.station n) .fireReported
                ∧ t.active (.station n) .configDiffer = s.active (.station n) .configDiffer)

/-! ## Bulletins heard (chapters 2, 4, 5 and 7) -/

/-- A RELEASE of the own epoch, from another station or the own one heard back, releases its floor: the floor joins the
released set, a record of its persons joins the tail of each stair queue that it names, the own assigned stairs follow
where the floor is the own, and the own floor goes to EVACUATE with its RELEASE, where it has no claim any more (R4, R78,
R100 to R103). -/
def Obligations.ReleaseHeardJoinsQueues : Prop :=
  ∀ (dt : Nat) (bytes : List Byte) (h : Heard) (r : Release) (s : State), s.serving → s.lif.rx = .receiving →
    judge bytes = some h → readPayload h.kind h.payload = some (.release r) →
    r.epoch = s.rgu.epoch → flagged s.sau.released r.floor = false →
    ∃ t, exec (.bulletinEnd dt (.complete bytes)) s = .next t
      ∧ t.sau.released = withFlag s.sau.released r.floor
      ∧ (∀ st : Stair, t.sau.queues[st]
          = if s.hasStair st ∧ 0 < r.countFor st then
              s.sau.queues[st] ++ [⟨some r.floor, r.countFor st, s.rgu.epoch⟩]
            else s.sau.queues[st])
      ∧ t.sau.assigned = (if s.ownFloor = some r.floor then s.stairsOf r else s.sau.assigned)
      ∧ (s.ownFloor = some r.floor → t.rgu.phase = .evacuate ∧ t.rgu.mode = .none ∧ t.sau.claim.state = .none)
      ∧ t.sau.status = s.sau.status ∧ t.rgu.epoch = s.rgu.epoch ∧ t.rgu.own = s.rgu.own ∧ t.rgu.stored = s.rgu.stored

/-- A CONDITION of the own epoch from another station replaces its stored set whole, with FIRE_REPORTED on its source
exactly while the set holds an entry (R69), and the floor condition map is derived from the sets that then stand. Every
bank follows the map: fire that comes into view sets the fire latch and starts the recall with its landing selected, a
lobby fire change redirects it, and its LIFT follows each change (R130, R132 to R134, R144). The phase is evaluated, and
an unreleased own floor has its claim made, kept, made forced or withdrawn (R72 to R77, R81, R82, R97 to R100). That the
answer to the withdrawal of an ARBITRATING entry stays open is the model's reading (log entry 18), and so is the one
evaluation of the phase where the bulletin brings a LOST sender's floor back to the roster (log entry 36). A STATUS
replaces the stored set likewise, fills the sender's roster record, with CONFIG_DIFFER on its source exactly while its
digest is another than the own, and ends JOINING, whose station takes its view of the stairs, as no other does. A LIFT,
from another station or the own one heard back, fills the lift summary of its bank; and such a STAIR that carries
SMOKE_LOGGED logs its stair, whose leaf is released and dropped, and leaves the queues as they stand (R4, R30, R32, R34,
R37, R68, R70, R91, R108, R114, R115, R210). -/
def Obligations.ReportsHeardKept : Prop :=
  ∀ (dt : Nat) (bytes : List Byte) (h : Heard) (s : State), s.serving → s.lif.rx = .receiving →
    judge bytes = some h →
    (∀ l, s.lif.tx ≠ .sending → readPayload h.kind h.payload = some (.condition s.rgu.epoch l) →
      ∃ t, exec (.bulletinEnd dt (.complete bytes)) s = .next t
        ∧ t.rgu.stored = s.rgu.stored.set h.sender (some l) ∧ t.rgu.map = mapOf t.sets
        ∧ t.rgu.own = s.rgu.own ∧ t.rgu.epoch = s.rgu.epoch ∧ t.sau.released = s.sau.released
        ∧ t.sau.queues = s.sau.queues ∧ t.sau.status = s.sau.status
        ∧ t.active (.station h.sender) .fireReported = !l.isEmpty
        ∧ (∀ n : Sender, n ≠ h.sender → t.active (.station n) .fireReported = s.active (.station n) .fireReported)
        ∧ (s.liftsAgree → s.recallsFollow t)
        ∧ (s.lineOk → s.settled → s.ssu.config.unconfigured = false → ∀ f ∈ s.ownFloor,
            flagged s.sau.released f = false → s.claimDecided t f))
      ∧ (∀ r, s.lif.tx ≠ .sending → readPayload h.kind h.payload = some (.status r) → r.epoch = s.rgu.epoch →
        s.isOwn h.sender = false →
        ∃ t x, exec (.bulletinEnd dt (.complete bytes)) s = .next t
          ∧ t.rgu.stored = s.rgu.stored.set h.sender (some r.contributions) ∧ t.rgu.map = mapOf t.sets
          ∧ t.bdr.roster[h.sender] = some x ∧ x.presence = .present ∧ x.silent = 0 ∧ x.floor = r.floor
          ∧ x.phase = some r.phase ∧ x.supply = some r.supply ∧ x.lastEpoch = some r.epoch
          ∧ x.digestAgrees = decide (r.digest = s.ssu.config.digest)
          ∧ t.active (.station h.sender) .configDiffer = decide (r.digest ≠ s.ssu.config.digest)
          ∧ t.ssu.join = .joined ∧ t.rgu.own = s.rgu.own ∧ t.rgu.epoch = s.rgu.epoch
          ∧ t.active (.station h.sender) .fireReported = !r.contributions.isEmpty
          ∧ (s.ssu.join = .joining → t.holdsView s.sau r)
          ∧ (s.ssu.join = .joined → t.sau.released = s.sau.released ∧ t.sau.queues = s.sau.queues
              ∧ t.sau.status = s.sau.status ∧ t.sau.assigned = s.sau.assigned))
      ∧ (∀ l, s.hears (.lift l) → readPayload h.kind h.payload = some (.lift l) →
        ∃ t, exec (.bulletinEnd dt (.complete bytes)) s = .next t
          ∧ t.bdr.summary[l.bank] = some { landing := l.landing, cause := l.cause, cars := l.cars, sender := h.sender }
          ∧ (∀ b : Bank, b ≠ l.bank → t.bdr.summary[b] = s.bdr.summary[b])
          ∧ t.rgu.own = s.rgu.own ∧ t.rgu.stored = s.rgu.stored ∧ t.rgu.epoch = s.rgu.epoch
          ∧ t.sau.released = s.sau.released ∧ t.lfu = s.lfu)
      ∧ (∀ st status, s.hears (.stair s.rgu.epoch st status) →
        readPayload h.kind h.payload = some (.stair s.rgu.epoch st status) →
        ∃ t, exec (.bulletinEnd dt (.complete bytes)) s = .next t
          ∧ t.sau.status = (if s.hasStair st ∧ status = .smokeLogged then s.sau.status.set st .smokeLogged
              else s.sau.status)
          ∧ (s.hasStair st = true → status = .smokeLogged → s.sau.status[st] = .inService →
              ∀ l ∈ t.lfc.leaves[st], l.lock = .released ∧ l.hold = .dropped)
          ∧ t.sau.queues = s.sau.queues ∧ t.sau.released = s.sau.released ∧ t.sau.assigned = s.sau.assigned
          ∧ t.rgu.own = s.rgu.own ∧ t.rgu.stored = s.rgu.stored ∧ t.rgu.map = s.rgu.map ∧ t.rgu.epoch = s.rgu.epoch)

/-- A REGIME_RESET of a larger epoch, from another station or the own one heard back, starts it: the epoch is adopted, the released set, the stair queues, the assigned
stairs, the stored sets, the alert silence and the unlock-all flag are cleared, every stair is IN_SERVICE, the map is
derived from the sets that then stand, and a STATUS of the new epoch is queued (R85, R88, R107). Every other content of a
larger epoch starts it in the same way, and is then taken in the new epoch: a CONDITION and the contributions of a STATUS
as the sender's stored set, the view of a STATUS as the stair view, a STAIR as the stair's status, and a RELEASE as the
first record of its queues (R24, R108). -/
def Obligations.ResetHeardStartsEpoch : Prop :=
  ∀ (dt : Nat) (bytes : List Byte) (h : Heard) (c : Content) (e : Nat) (s : State), s.serving →
    s.lif.rx = .receiving → (s.lif.tx ≠ .sending ∨ (s.hears c ∧ c.slot = .regimeReset)) → judge bytes = some h →
    readPayload h.kind h.payload = some c → c.epoch? = some e → s.rgu.epoch < e →
    ∃ t, exec (.bulletinEnd dt (.complete bytes)) s = .next t
      ∧ t.rgu.epoch = e ∧ t.rgu.silence = false ∧ t.rgu.map = mapOf t.sets ∧ t.lfc.unlockAll = false
      ∧ (s.lif.tx ≠ .off → ∃ x, t.lif.inSlot .status = some x ∧ x.latest = .status t.statusReport)
      ∧ t.rgu.stored = (match c with
          | .condition _ l => (Vector.replicate 63 none).set h.sender (some l)
          | .status r => (Vector.replicate 63 none).set h.sender (some r.contributions)
          | _ => Vector.replicate 63 none)
      ∧ match c with
        | .status r =>
          t.holdsView { s.sau with
            released := 0, queues := Vector.replicate 4 [], assigned := []
            status := Vector.replicate 4 .inService } r ∧ t.ssu.join = .joined
        | .stair _ st v =>
          t.sau.released = 0 ∧ t.sau.queues = Vector.replicate 4 [] ∧ t.sau.assigned = []
            ∧ ∀ st' : Stair, t.sau.status[st'] =
              if st' = st ∧ s.hasStair st ∧ v = .smokeLogged then .smokeLogged else .inService
        | .release r =>
          t.sau.released = withFlag 0 r.floor ∧ t.sau.status = Vector.replicate 4 .inService
            ∧ t.sau.assigned = (if s.ownFloor = some r.floor then s.stairsOf r else [])
            ∧ ∀ st : Stair, t.sau.queues[st] =
              if s.hasStair st ∧ 0 < r.countFor st then [⟨some r.floor, r.countFor st, e⟩] else []
        | _ =>
          t.sau.released = 0 ∧ t.sau.queues = Vector.replicate 4 [] ∧ t.sau.assigned = []
            ∧ t.sau.status = Vector.replicate 4 .inService

/-- Every good bulletin from outside is taken at the line and the roster: it frees the hold, and one that carries the own
number raises DUPLICATE_STATION on the own source, and is noted for the period (R5, R17). FLOOR_DUPLICATE then stands on
the source of exactly each PRESENT record whose floor another PRESENT record names (R36). A bulletin that R23 rejects,
heard or sent here, goes no further: it raises BULLETIN_REJECTED on its sender's source, noted for the period, refreshes
the sender's record and ends STATION_LOST (R22, R30, R32), and changes no view and offers no STATUS. A bulletin of a
smaller epoch goes no further than the roster either, and is answered with the own STATUS (R24). That DUPLICATE_STATION
comes before the dispatch, and when the floors are examined, are the model's readings (log entries 36 and 41). -/
def Obligations.StaleEpochAnswered : Prop :=
  ∀ (dt : Nat) (bytes : List Byte) (h : Heard) (s : State), s.serving → s.lif.rx = .receiving → judge bytes = some h →
    (∃ t, exec (.bulletinEnd dt (.complete bytes)) s = .next t
      ∧ (s.lif.tx ≠ .sending → t.lif.held = false ∧ t.lif.duplicateSeen = (s.lif.duplicateSeen || s.isOwn h.sender)
          ∧ ∀ n : Sender, t.active (.station n) .duplicateStation
            = (s.active (.station n) .duplicateStation || (s.isOwn h.sender && n == h.sender)))
      ∧ (s.settled → ∀ n : Sender, t.bdr.roster[n] ≠ none →
          (t.active (.station n) .floorDuplicate = true ↔ t.sharesFloor n)))
      ∧ (readPayload h.kind h.payload = none →
        ∃ t, exec (.bulletinEnd dt (.complete bytes)) s = .next t
          ∧ t.bdr.rejectedSeen = s.bdr.rejectedSeen.set h.sender true
          ∧ (∀ n : Sender, t.active (.station n) .bulletinRejected
              = (n == h.sender || s.active (.station n) .bulletinRejected))
          ∧ (s.isOwn h.sender = false →
              t.bdr.roster[h.sender] = some (match s.bdr.roster[h.sender] with
                | none =>
                  { floor := none, presence := .present, silent := 0, lastEpoch := none, digestAgrees := true
                    phase := none, supply := none }
                | some r => { r with presence := .present, silent := 0 })
              ∧ (s.bdr.roster[h.sender] ≠ none → t.active (.station h.sender) .stationLost = false))
          ∧ (s.lif.tx ≠ .sending → s.lif.inSlot .status = none → t.lif.inSlot .status = none)
          ∧ t.rgu.stored = s.rgu.stored ∧ t.rgu.own = s.rgu.own ∧ t.rgu.map = s.rgu.map ∧ t.rgu.epoch = s.rgu.epoch
          ∧ t.rgu.silence = s.rgu.silence ∧ t.sau.released = s.sau.released ∧ t.sau.queues = s.sau.queues
          ∧ t.sau.status = s.sau.status ∧ t.bdr.summary = s.bdr.summary ∧ t.lfu = s.lfu ∧ t.ssu = s.ssu)
      ∧ ∀ (c : Content) (e : Nat), s.lif.tx ≠ .sending → s.lif.tx ≠ .off → readPayload h.kind h.payload = some c →
        c.epoch? = some e → e < s.rgu.epoch →
        ∃ t, exec (.bulletinEnd dt (.complete bytes)) s = .next t
          ∧ (∃ x, t.lif.inSlot .status = some x ∧ x.latest = .status t.statusReport)
          ∧ t.rgu.stored = s.rgu.stored ∧ t.rgu.own = s.rgu.own ∧ t.rgu.map = s.rgu.map ∧ t.rgu.epoch = s.rgu.epoch
          ∧ t.sau.released = s.sau.released ∧ t.sau.queues = s.sau.queues ∧ t.sau.status = s.sau.status

/-- A COMMAND takes effect where it is heard, from another station or the own one heard back; the own one leaves the count
of those queued (R4, R199). A MANUAL_RECALL puts its bank under recall: the manual flag is set, a landing is selected, and
no car of the bank is left in NORMAL (R131 to R133, R135). A CANCEL_RECALL clears the flag, and without a fire latch it
ends the recall. The LIFT of the bank follows either (R144). A SILENCE_ALERT sets the alert silence, with ALERT_SILENCED
and without the ALERT program, and an UNLOCK_STAIRS the unlock-all flag, with STAIRS_UNLOCKED and every re-entry lock
released (R83, R114, R118). -/
def Obligations.RecallCommandHeard : Prop :=
  ∀ (dt : Nat) (bytes : List Byte) (h : Heard) (level : Nat) (s : State), s.serving → s.lif.rx = .receiving →
    judge bytes = some h →
    let counted (t : State) : Prop :=
      t.cpt.commands = if s.lif.tx = .sending then s.cpt.commands - 1 else s.cpt.commands
    (∀ (b : Bank) (cfg : BankConfig) (r : BankRecord), s.liftsAgree → s.ssu.config.banks[b] = some cfg →
      s.lfu.banks[b] = some r →
      (s.hears (.command (.manualRecall b) level) →
        readPayload h.kind h.payload = some (.command (.manualRecall b) level) →
        ∃ t k, exec (.bulletinEnd dt (.complete bytes)) s = .next t ∧ t.lfu.banks[b] = some k
          ∧ counted t ∧ k.manual = true ∧ k.fireLatch = r.fireLatch ∧ k.cause = (if r.fireLatch then .fire else .manual)
          ∧ k.landing ≠ .none ∧ (∀ c : Car, hasCar cfg c = true → k.cars[c].state ≠ .normal)
          ∧ (r.cause = .none → k.landing = if s.rgu.map.lobbyFire cfg.designated = false then .designated
              else if s.rgu.map.lobbyFire cfg.alternate = false then .alternate else .designated)
          ∧ s.liftFollows t b cfg r k)
        ∧ (s.hears (.command (.cancelRecall b) level) →
          readPayload h.kind h.payload = some (.command (.cancelRecall b) level) →
          ∃ t k, exec (.bulletinEnd dt (.complete bytes)) s = .next t ∧ t.lfu.banks[b] = some k
            ∧ counted t ∧ k.manual = false ∧ k.fireLatch = r.fireLatch ∧ k.cause = (if r.fireLatch then .fire else .none)
            ∧ (r.fireLatch = false → k.landing = .none ∧ k.hat = .off
                ∧ ∀ c : Car, hasCar cfg c = true → k.cars[c].state = .normal ∨ k.cars[c].state = .firefighter)
            ∧ s.liftFollows t b cfg r k))
      ∧ (s.hears (.command .silenceAlert level) → readPayload h.kind h.payload = some (.command .silenceAlert level) →
        ∃ t, exec (.bulletinEnd dt (.complete bytes)) s = .next t
          ∧ counted t ∧ t.rgu.silence = true ∧ t.rgu.own = s.rgu.own
          ∧ t.rgu.stored = s.rgu.stored ∧ t.rgu.epoch = s.rgu.epoch
          ∧ (s.rgu.silence = false → t.active (.internal .console) .alertSilenced = true
              ∧ t.pbu.program = if t.rgu.phase = .evacuate then .evacuate else .none))
      ∧ (s.hears (.command .unlockStairs level) → s.leavesAgree →
        readPayload h.kind h.payload = some (.command .unlockStairs level) →
        ∃ t, exec (.bulletinEnd dt (.complete bytes)) s = .next t
          ∧ counted t ∧ t.lfc.unlockAll = true ∧ (∀ st : Stair, ∀ l ∈ t.lfc.leaves[st], l.lock = .released)
          ∧ (s.lfc.unlockAll = false → t.active (.internal .console) .stairsUnlocked = true)
          ∧ t.rgu.own = s.rgu.own ∧ t.rgu.stored = s.rgu.stored ∧ t.rgu.epoch = s.rgu.epoch)

/-- At a refresh expiry the next one is set a period later, the counts of the period ended are set back, every other
station's record ages, an attempt opens under TX_FAULT, a STATUS of the present values is queued, and the second expiry
ends JOINING (R6, R11, R27, R33, R210). A period without a failed bulletin ends LINE_RX_DEGRADED, one without another
bulletin of the own number DUPLICATE_STATION, and one without a rejected bulletin of a sender BULLETIN_REJECTED on its
source; else they stay as they stand (R5, R6, R23). The record whose silent count reaches 3 is LOST, with STATION_LOST,
and FLOOR_DUPLICATE then stands on the source of exactly each PRESENT record whose floor another PRESENT record names
(R33, R36). That the next period counts from the moment this one fell due is the model's choice (log entry 2), and that
the attempt is examined before the STATUS is offered its reading (log entry 21). -/
def Obligations.RefreshExpires : Prop :=
  ∀ (dt : Nat) (s : State) (due : Time), s.serving → s.bdr.refreshNext = some due → due ≤ s.now + dt →
    ∃ t, exec (.refreshExpiry dt) s = .next t
      ∧ t.bdr.refreshNext = some (due + seconds s.ssu.config.refresh)
      ∧ t.lif.failures = 0 ∧ t.lif.duplicateSeen = false ∧ t.bdr.rejectedSeen = Vector.replicate 63 false
      ∧ t.lif.attemptOpen = (s.lif.attemptOpen || (s.lif.txFault && !s.lif.queue.isEmpty))
      ∧ (s.lif.tx ≠ .off → ∃ e, t.lif.inSlot .status = some e ∧ e.latest = .status t.statusReport)
      ∧ (∀ (n : Sender) (r : RosterRecord), s.isOwn n = false → s.bdr.roster[n] = some r →
          t.bdr.roster[n] = some (if r.presence = .lost then r
            else if r.silent + 1 < 3 then { r with silent := r.silent + 1 }
            else { r with silent := 3, presence := .lost }))
      ∧ (t.active (.internal .lineRx) .lineRxDegraded
          = (s.lif.failures != 0 && s.active (.internal .lineRx) .lineRxDegraded))
      ∧ (∀ n ∈ s.ssu.station, t.active (.station n) .duplicateStation
          = (s.lif.duplicateSeen && s.active (.station n) .duplicateStation))
      ∧ (∀ n : Sender, t.active (.station n) .bulletinRejected
          = (s.bdr.rejectedSeen[n] && s.active (.station n) .bulletinRejected))
      ∧ (∀ (n : Sender) (r : RosterRecord), s.isOwn n = false → s.bdr.roster[n] = some r →
          t.active (.station n) .stationLost
            = (decide (r.presence = .present ∧ 3 ≤ r.silent + 1) || s.active (.station n) .stationLost))
      ∧ (s.settled → ∀ n : Sender, t.bdr.roster[n] ≠ none →
          (t.active (.station n) .floorDuplicate = true ↔ t.sharesFloor n))
      ∧ t.ssu.expiries = s.ssu.expiries + 1
      ∧ t.ssu.join = (if s.ssu.join = .joining ∧ 2 ≤ s.ssu.expiries + 1 then .joined else s.ssu.join)

/-! ## Stairs and points (chapters 3 and 5) -/

/-- At a drain tick the load of every stair falls by the smaller of its drain and its load: the records at the head of
its queue are drained first and removed at 0, and those behind them stay as they are; the next tick is set a period
later, from the moment this one fell due (log entry 2); and nothing else of the Stair Admission Unit's view changes
(R104, R105). A tick that leaves the queues leaves the phase and the claim; one that changes a load has the phase
evaluated against the loads as they stand (R106). For an unreleased own floor a claim is then made, FORCED in the
neighbourhood, and NON_FORCED where the floor is first in the order and its split fits, with its RELEASE queued; one that
is queued is kept, made forced, or withdrawn where fire has gone from view or its re-check fails; and one that is FIXED
stays (R72 to R77, R81, R82, R97 to R100; the open answer of a withdrawal: log entry 18). -/
def Obligations.DrainTickDrains : Prop :=
  ∀ (dt : Nat) (s : State) (due : Time), s.serving → s.sau.drainNext = some due → due ≤ s.now + dt →
    ∃ t, exec (.drainTick dt) s = .next t
      ∧ t.sau.drainNext = some (due + seconds s.ssu.config.drainTick)
      ∧ (∀ st : Stair, s.hasStair st = true →
        t.sau.load st = s.sau.load st - s.ssu.config.drain[st]
          ∧ ∃ gone rest, s.sau.queues[st] = gone ++ rest ∧ (gone.map (·.persons)).sum ≤ s.ssu.config.drain[st]
            ∧ ((rest = [] ∧ t.sau.queues[st] = [])
              ∨ ∃ q behind, rest = q :: behind ∧ s.ssu.config.drain[st] < (gone.map (·.persons)).sum + q.persons
                ∧ t.sau.queues[st]
                  = { q with persons := q.persons - (s.ssu.config.drain[st] - (gone.map (·.persons)).sum) } :: behind))
      ∧ (∀ st : Stair, s.hasStair st = false → t.sau.queues[st] = s.sau.queues[st])
      ∧ t.sau.released = s.sau.released ∧ t.sau.status = s.sau.status ∧ t.sau.assigned = s.sau.assigned
      ∧ t.rgu.epoch = s.rgu.epoch ∧ t.rgu.own = s.rgu.own ∧ t.rgu.stored = s.rgu.stored ∧ t.rgu.map = s.rgu.map
      ∧ ((∃ st : Stair, t.sau.load st ≠ s.sau.load st) → s.lineOk → s.settled → s.ssu.config.unconfigured = false →
          ∀ f ∈ s.ownFloor, flagged s.sau.released f = false → s.claimDecided t f)
      ∧ (t.sau.queues = s.sau.queues → t.rgu = s.rgu ∧ s.claimLeft t)

/-- A change to ACTIVE at a point in NORMAL reports once, by the type of the point: an armed CALL_POINT, which is then
no longer armed, an unverified DETECTOR or LOBBY, a STAIR_SMOKE, a MACHINE_ROOM and a HOISTWAY report the own floor with
their cause, and a LEGACY_GENERAL reports GENERAL (R46, R51 to R53). Whatever the answer, the point is in FIRE with ALARM,
and no other point changes (R44, R45). An entry that is ADDED joins the own contribution set, the map is derived again,
the CONDITION with the whole set is offered, and the banks follow the map; one that is HELD changes nothing more; one that
is REFUSED, at 16 entries, leaves the set and raises CONTRIBUTION_FULL on the point (R65 to R67, R70, R71, R130). A
STAIR_SMOKE reports smoke in its stair: a STAIR is offered unless the stair is SMOKE_LOGGED, its offer of this epoch is
made already, or it is beyond the stair count (R90). A MACHINE_ROOM or HOISTWAY alarms its bank, whose hat flashes where the
bank is under recall (R53, R143). -/
def Obligations.CallPointReportsFloor : Prop :=
  ∀ (dt : Nat) (p : Point) (e : Entry) (s : State), s.serving → (s.point p).isolated = false →
    (s.point p).lastGood ≠ some true → (s.point p).logical = .normal →
    (s.point p).filterFrom + filterTime ≤ s.now + dt →
    ((s.pointType p = .callPoint ∧ (s.point p).armed = true ∧ e = ⟨s.ownFloor, .callPoint⟩)
      ∨ (∃ g : Group, s.pointType p = .detector g ∧ s.ssu.config.points[p].verification = false ∧ s.ptu.cuts[g] = none
          ∧ e = ⟨s.ownFloor, .detector⟩)
      ∨ (∃ g : Group, s.pointType p = .lobby g ∧ s.ssu.config.points[p].verification = false ∧ s.ptu.cuts[g] = none
          ∧ e = ⟨s.ownFloor, .lobby⟩)
      ∨ (∃ st : Stair, s.pointType p = .stairSmoke st ∧ e = ⟨s.ownFloor, .stair⟩)
      ∨ (∃ b : Bank, s.pointType p = .machineRoom b ∧ e = ⟨s.ownFloor, .machineRoom⟩)
      ∨ (∃ b : Bank, s.pointType p = .hoistway b ∧ e = ⟨s.ownFloor, .hoistway⟩)
      ∨ (s.pointType p = .legacyGeneral ∧ e = ⟨none, .legacyGeneral⟩)) →
    ∃ t, exec (.readingTaken dt p .active) s = .next t
      ∧ t.point p = { s.point p with
          reading := .active, lastGood := some true, logical := .fire, renew := false
          armed := if s.pointType p = .callPoint then false else (s.point p).armed }
      ∧ (∀ q : Point, q ≠ p → t.point q = s.point q) ∧ t.ptu.cuts = s.ptu.cuts
      ∧ t.active (.point p) .alarm = true
      ∧ t.rgu.stored = s.rgu.stored ∧ t.rgu.epoch = s.rgu.epoch
      ∧ (e ∉ s.rgu.own → s.rgu.own.length < 16 →
          t.rgu.own = s.rgu.own ++ [e] ∧ t.rgu.map = mapOf t.sets
            ∧ t.active (.point p) .contributionFull = s.active (.point p) .contributionFull
            ∧ (s.lif.tx ≠ .off → ∃ x, t.lif.inSlot .condition = some x ∧ x.latest = .condition s.rgu.epoch t.rgu.own)
            ∧ (s.liftsAgree → s.recallsFollow t))
      ∧ (e ∈ s.rgu.own →
          t.rgu = s.rgu ∧ t.lif.inSlot .condition = s.lif.inSlot .condition
            ∧ t.active (.point p) .contributionFull = s.active (.point p) .contributionFull)
      ∧ (e ∉ s.rgu.own → 16 ≤ s.rgu.own.length →
          t.rgu = s.rgu ∧ t.lif.inSlot .condition = s.lif.inSlot .condition
            ∧ t.active (.point p) .contributionFull = true)
      ∧ t.sau.status = s.sau.status ∧ t.sau.released = s.sau.released ∧ t.sau.queues = s.sau.queues
      ∧ (∀ st : Stair, s.pointType p ≠ .stairSmoke st → t.sau.smokeOffer[st] = s.sau.smokeOffer[st]
          ∧ t.lif.inSlot (.stair st) = s.lif.inSlot (.stair st))
      ∧ (∀ st : Stair, s.pointType p = .stairSmoke st →
          if st.val < s.ssu.config.stairCount ∧ s.sau.status[st] = .inService
              ∧ s.sau.smokeOffer[st] ≠ some s.rgu.epoch ∧ s.lif.tx ≠ .off then
            t.sau.smokeOffer[st] = some s.rgu.epoch
              ∧ ∃ x ∈ t.lif.inSlot (.stair st), x.latest = .stair s.rgu.epoch st .smokeLogged
          else t.sau.smokeOffer[st] = s.sau.smokeOffer[st] ∧ t.lif.inSlot (.stair st) = s.lif.inSlot (.stair st))
      ∧ (∀ b : Bank, (s.pointType p = .machineRoom b ∨ s.pointType p = .hoistway b) → s.liftsAgree →
          ∀ r ∈ s.lfu.banks[b], ∃ k ∈ t.lfu.banks[b],
            k.alarm = true ∧ k.hat = if k.cause = .none then .off else .flashing)

/-- A change to ACTIVE at a verified DETECTOR or LOBBY point in NORMAL takes it to PRE_ALARM with VERIFYING, offers
nothing, and cuts its supply group for 5 s. The end of a cut returns the supply, and every point of the group in
PRE_ALARM enters CONFIRMING with a window of 60 s from that moment; the other points keep their states. An ACTIVE taken
before the window's expiry confirms: the point enters FIRE with ALARM and its contribution, and VERIFYING clears. A window
that runs out unconfirmed returns its point to NORMAL, counts it up to 3, and on the third raises DETECTOR_UNSTABLE (R46
to R49). That the window counts from the moment the cut fell due is the model's choice (log entry 2). -/
def Obligations.VerificationRuns : Prop :=
  ∀ (dt : Nat) (s : State), s.serving → s.settled →
    (∀ (p : Point) (g : Group), groupOf (s.pointType p) = some g → s.ssu.config.points[p].verification = true →
      (s.point p).isolated = false → s.ptu.cuts[g] = none → (s.point p).filterFrom + filterTime ≤ s.now + dt →
      ((s.point p).logical = .normal → (s.point p).lastGood ≠ some true →
        ∃ t, exec (.readingTaken dt p .active) s = .next t
          ∧ t.point p = { s.point p with reading := .active, lastGood := some true, logical := .preAlarm, renew := false }
          ∧ (∀ q : Point, q ≠ p → t.point q = s.point q)
          ∧ t.ptu.cuts = s.ptu.cuts.set g (some (s.now + dt + 5 * 9600))
          ∧ t.active (.point p) .verifying = true
          ∧ t = { s.after dt with ptu := t.ptu, eva := t.eva, lfu := t.lfu })
        ∧ (∀ expiry, (s.point p).logical = .confirming → (s.point p).windowExpiry = some expiry →
          s.now + dt < expiry → s.rgu.own.length < 16 →
          let e : Entry := ⟨s.ownFloor, if s.pointType p = .lobby g then .lobby else .detector⟩
          ∃ t, exec (.readingTaken dt p .active) s = .next t
            ∧ t.point p = { s.point p with
                reading := .active, lastGood := some true, logical := .fire, windowExpiry := none, renew := false }
            ∧ (∀ q : Point, q ≠ p → t.point q = s.point q) ∧ t.ptu.cuts = s.ptu.cuts
            ∧ t.rgu.own = (if e ∈ s.rgu.own then s.rgu.own else s.rgu.own ++ [e])
            ∧ t.active (.point p) .alarm = true ∧ t.active (.point p) .verifying = false
            ∧ t.rgu.stored = s.rgu.stored ∧ t.rgu.epoch = s.rgu.epoch))
      ∧ ∀ due, due ≤ s.now + dt →
        (∀ g : Group, s.ptu.cuts[g] = some due →
          ∃ t, exec (.supplyCutEnd dt g) s = .next t
            ∧ t.ptu.cuts = s.ptu.cuts.set g none
            ∧ (∀ p : Point, t.point p =
                if groupOf (s.pointType p) = some g ∧ (s.point p).logical = .preAlarm then
                  { s.point p with logical := .confirming, windowExpiry := some (due + 60 * 9600), filterFrom := due }
                else if groupOf (s.pointType p) = some g then { s.point p with filterFrom := due }
                else s.point p)
            ∧ t = { s.after dt with ptu := t.ptu })
          ∧ (∀ p : Point, (s.point p).logical = .confirming → (s.point p).windowExpiry = some due →
            ∃ t, exec (.windowExpiry dt p) s = .next t
              ∧ t.point p = { s.point p with
                  logical := .normal, windowExpiry := none, unconfirmed := min 3 ((s.point p).unconfirmed + 1) }
              ∧ (∀ q : Point, q ≠ p → t.point q = s.point q) ∧ t.ptu.cuts = s.ptu.cuts
              ∧ t.active (.point p) .verifying = false
              ∧ (t.active (.point p) .detectorUnstable
                  = (decide (2 ≤ (s.point p).unconfirmed) || s.active (.point p) .detectorUnstable))
              ∧ t = { s.after dt with ptu := t.ptu, eva := t.eva })

/-- The open digit of a coded round closes 1.2 s after its last pulse, and the round more than 3 s after it. A round that
is not the candidate becomes the candidate. The second round of one code in succession decodes it: the floor of the first
code table entry that holds it is reported as a LEGACY_ZONE, and a code that no entry holds is reported as GENERAL, with
CODE_UNKNOWN (R61 to R63). A round that still has its digit open when it closes comes about by late delivery alone (log
entries 2 and 23); its digit counts. That the round's fields are empty after its close is the model's choice (log entry
43). -/
def Obligations.CodedRoundCloses : Prop :=
  ∀ (dt : Nat) (p : Point) (s : State) (last : Time) (code : List Nat), s.serving → s.pointType p = .legacyCoded →
    (s.point p).isolated = false → (s.point p).decoder.state = .gap → (s.point p).decoder.lastPulseEnd = some last →
    code = (s.point p).decoder.closed ++ (if (s.point p).decoder.count = 0 then [] else [(s.point p).decoder.count]) →
    (s.settled → 1 ≤ (s.point p).decoder.count → last + millis 1200 ≤ s.now + dt →
      exec (.digitClose dt p) s = .next ((s.after dt).setDecoder p fun d => { d with closed := code, count := 0 }))
      ∧ (s.settled → last + millis 3000 < s.now + dt → (s.point p).decoder.candidate ≠ some code →
        exec (.roundClose dt p) s = .next ((s.after dt).setDecoder p fun d =>
          { d with state := .quiet, closed := [], count := 0, pulseStart := none, lastPulseEnd := none
                   candidate := some code }))
      ∧ (last + millis 3000 < s.now + dt → (s.point p).decoder.candidate = some code → s.rgu.own.length < 16 →
        ∃ t e, exec (.roundClose dt p) s = .next t
          ∧ (t.point p).logical = .fire
          ∧ (t.point p).decoder = { (s.point p).decoder with
              state := .quiet, closed := [], count := 0, pulseStart := none, lastPulseEnd := none
              lastDecoded := some code, lastUnknown := (t.point p).decoder.lastUnknown }
          ∧ t.rgu.own = (if e ∈ s.rgu.own then s.rgu.own else s.rgu.own ++ [e])
          ∧ (∀ (i : Fin 32) (x : CodeEntry), s.ssu.config.codes[i] = some x → x.digits = code →
              (∀ j : Fin 32, j < i → ∀ y ∈ s.ssu.config.codes[j], y.digits ≠ code) →
              e = ⟨some x.floor, .legacyZone⟩ ∧ (t.point p).decoder.lastUnknown = (s.point p).decoder.lastUnknown)
          ∧ ((∀ i : Fin 32, ∀ y ∈ s.ssu.config.codes[i], y.digits ≠ code) →
              e = ⟨none, .legacyGeneral⟩ ∧ (t.point p).decoder.lastUnknown = some code
                ∧ t.active (.point p) .codeUnknown = true)
          ∧ t.active (.point p) .alarm = true
          ∧ (∀ q : Point, q ≠ p → t.point q = s.point q)
          ∧ t.rgu.epoch = s.rgu.epoch ∧ t.rgu.stored = s.rgu.stored ∧ t.sau.released = s.sau.released)

/-- A reading that is neither a report nor the start of a verification does what its point's type gives. OPEN or SHORT
raises its condition in place of the other and leaves the last good reading, the logical state and every view as they
stand; on a coded point it abandons the round (R43, R64). A pulse on a coded point opens when ACTIVE is taken and counts
where it lasts 80 to 1000 ms; a shorter one is no pulse, and a longer one, a tenth of a digit and a fourth digit spoil the
round (R60, R61). A good reading of a passing point presents its value, combined with the points of its role, to its
owner: the position and the lock feedback of a leaf with their supervision, an input of a car with what its table gives
and the LIFT that follows, the supply state with SUPPLY while it is not MAINS, and the level keys (R54, R113, R122, R123,
R135 to R138, R140, R144, R195, R211). The model's readings stand in log entries
11 (when a reading is taken), 22 (the last codes stay), 23 (a digit whose end was not delivered closes first), 38 (the
logical state without a good reading), 43 (the fields of a spoiled round, and no pulse start once a pulse has ended) and
47 (the closing timer of a leaf left open through a restart). -/
def Obligations.ReadingsPassedOn : Prop :=
  ∀ (dt : Nat) (p : Point) (s : State), s.serving →
    (∀ (r : Sensed) (c d : Condition), s.ssu.config.points[p].supervised = true →
      (∀ g ∈ groupOf (s.pointType p), s.ptu.cuts[g] = none) → (s.point p).filterFrom + filterTime ≤ s.now + dt →
      (s.point p).reading ≠ readingOf r →
      ((r = .openLoop ∧ c = .openCircuit ∧ d = .shortCircuit) ∨ (r = .short ∧ c = .shortCircuit ∧ d = .openCircuit)) →
      ∃ t, exec (.readingTaken dt p r) s = .next t
        ∧ t.active (.point p) c = true ∧ t.active (.point p) d = false
        ∧ t.point p = { s.point p with
            reading := readingOf r, logical := (t.point p).logical, decoder := (t.point p).decoder }
        ∧ ((alarmType (s.pointType p) = true
            ∨ ((s.point p).isolated = false ∧ ∀ v ∈ (s.point p).lastGood,
                (s.point p).logical = if v then .active else .normal)) →
            (t.point p).logical = (s.point p).logical)
        ∧ (t.point p).decoder = (if s.pointType p = .legacyCoded ∧ (s.point p).isolated = false then
            { Decoder.empty with
              lastDecoded := (s.point p).decoder.lastDecoded, lastUnknown := (s.point p).decoder.lastUnknown }
            else (s.point p).decoder)
        ∧ (∀ q : Point, q ≠ p → t.point q = s.point q) ∧ t.ptu.cuts = s.ptu.cuts ∧ t.rgu = s.rgu ∧ t.sau = s.sau)
    ∧ (∀ (active : Bool), s.pointType p = .legacyCoded → (s.point p).isolated = false →
      (s.point p).lastGood = some (!active) → (s.point p).reading ≠ .openLoop → (s.point p).reading ≠ .short →
      (s.point p).filterFrom + codedFilterTime ≤ s.now + dt →
      let d := (s.point p).decoder
      let taken (t : State) : Prop :=
        (∀ q : Point, q ≠ p → t.point q = s.point q) ∧ t.ptu.cuts = s.ptu.cuts ∧ t.rgu = s.rgu ∧ t.sau = s.sau
          ∧ t.point p = { s.point p with
              reading := if active then .active else .normal, lastGood := some active, renew := false
              decoder := (t.point p).decoder }
      (active = true → (d.state = .quiet ∨ (d.state = .gap ∧ ∀ last ∈ d.lastPulseEnd, s.now + dt ≤ last + millis 3000)) →
        ∃ t, exec (.readingTaken dt p .active) s = .next t ∧ taken t
          ∧ (t.point p).decoder =
            (if d.state = .gap ∧ d.count ≠ 0 ∧ ∃ last ∈ d.lastPulseEnd, last + millis 1200 ≤ s.now + dt then
              { d with state := .pulse, pulseStart := some (s.now + dt), continuous := some (s.now + dt)
                       closed := d.closed ++ [d.count], count := 0 }
            else { d with state := .pulse, pulseStart := some (s.now + dt), continuous := some (s.now + dt) }))
      ∧ (∀ start, active = false → d.state = .pulse → d.pulseStart = some start →
        (s.now + dt - start < millis 80 → (∀ last ∈ d.lastPulseEnd, s.now + dt < last + millis 1200) →
          ∃ t, exec (.readingTaken dt p .normal) s = .next t ∧ taken t
            ∧ (t.point p).decoder = { d with
                state := if d.lastPulseEnd.isSome then .gap else .quiet, pulseStart := none, continuous := none })
        ∧ (millis 80 ≤ s.now + dt - start →
          ∃ t, exec (.readingTaken dt p .normal) s = .next t ∧ taken t
            ∧ (t.point p).decoder =
              (if millis 1000 < s.now + dt - start ∨ d.count = 9 ∨ (d.count = 0 ∧ d.closed.length = 3) then
                { d with state := .spoiled, closed := [], count := 0, pulseStart := none, continuous := none
                         lastPulseEnd := some (s.now + dt) }
              else { d with state := .gap, count := d.count + 1, pulseStart := none, continuous := none
                            lastPulseEnd := some (s.now + dt) }))))
    ∧ (∀ (active : Bool), alarmType (s.pointType p) = false → (s.point p).isolated = false →
      (s.point p).filterFrom + filterTime ≤ s.now + dt →
      let shown := (List.finRange 32).filterMap fun q =>
        if s.pointType q = s.pointType p then
          (if q = p then some active else if (s.point q).isolated then none else (s.point q).lastGood)
        else none
      let v := match s.pointType p with
        | .carAvailable _ _ => shown.all id
        | _ => shown.any id
      ∃ t, exec (.readingTaken dt p (if active then .active else .normal)) s = .next t
        ∧ t.point p = { s.point p with
            reading := if active then .active else .normal, lastGood := some active, renew := false
            logical := if active then .active else .normal }
        ∧ (∀ q : Point, q ≠ p → t.point q = s.point q) ∧ t.ptu.cuts = s.ptu.cuts ∧ t.rgu = s.rgu ∧ t.sau = s.sau
        ∧ t.active (.point p) .openCircuit = false ∧ t.active (.point p) .shortCircuit = false
        ∧ match s.pointType p with
          | .leafPosition st => ∀ l ∈ s.lfc.leaves[st], ∃ k, t.lfc.leaves[st] = some k
              ∧ k.position = some (if v then .opened else .closed)
              ∧ k.closingFrom = (if v = true ∧ l.hold = .dropped then
                  (if l.position = some .opened then l.closingFrom else some (s.now + dt)) else none)
          | .lockFeedback st => ∀ l ∈ s.lfc.leaves[st], ∃ k, t.lfc.leaves[st] = some k ∧ k.engaged = some v
              ∧ ((v = true ↔ l.lock = .locked) → k.feedback = some .following ∧ k.feedbackFrom = none)
              ∧ (¬(v = true ↔ l.lock = .locked) → l.feedback ≠ some .notFollowing → l.feedbackFrom = none →
                  k.feedback = some .following ∧ k.feedbackFrom = some (s.now + dt))
          | .carAvailable b c => ∀ cfg ∈ s.ssu.config.banks[b], ∀ r ∈ s.lfu.banks[b], c.val < cfg.carCount →
              ∃ k, t.lfu.banks[b] = some k ∧ s.liftFollows t b cfg r k
              ∧ let x := { r.cars[c] with available := v }
                k.cars[c] = (if r.cars[c].available = v then r.cars[c]
                  else if v = false ∧ x.state = .recalling then { x with state := .withdrawn, timer := none }
                  else if v = true ∧ x.state = .withdrawn then x.recalled r.landing t.now
                  else x)
              ∧ (r.cars[c].available ≠ v → x.state = (if v then .withdrawn else .recalling) →
                  t.active (.car b c) .carUnavailable = !v)
          | .carParked b c => ∀ cfg ∈ s.ssu.config.banks[b], ∀ r ∈ s.lfu.banks[b], c.val < cfg.carCount →
              ∃ k, t.lfu.banks[b] = some k ∧ s.liftFollows t b cfg r k
              ∧ let x := { r.cars[c] with parked := v }
                k.cars[c] = (if r.cars[c].parked = v then r.cars[c]
                  else if v = true ∧ x.state = .recalling then
                    (if x.key then { x with state := .firefighter, output := .none, timer := none }
                      else { x with state := .parked, timer := none })
                  else if v = false ∧ x.state = .parked then x.recalled r.landing t.now
                  else x)
              ∧ (r.cars[c].parked ≠ v → v = true → x.state = .recalling →
                  t.active (.car b c) .carNotRecalled = false)
              ∧ (r.cars[c].parked ≠ v → v = false → x.state = .parked →
                  t.active (.car b c) .carUnavailable = !x.available)
          | .carKey b c => ∀ cfg ∈ s.ssu.config.banks[b], ∀ r ∈ s.lfu.banks[b], c.val < cfg.carCount →
              ∃ k, t.lfu.banks[b] = some k ∧ s.liftFollows t b cfg r k
              ∧ let x := { r.cars[c] with key := v }
                k.cars[c] = (if r.cars[c].key = v then r.cars[c]
                  else if v = true ∧ x.state = .parked then
                    { x with state := .firefighter, output := .none, timer := none }
                  else if v = false ∧ x.state = .firefighter then
                    (if r.cause = .none then { x with state := .normal, output := .none, timer := none }
                      else x.recalled r.landing t.now)
                  else x)
              ∧ (r.cars[c].key ≠ v → v = false → x.state = .firefighter →
                  t.active (.car b c) .carUnavailable = (r.cause != .none && !x.available)
                    ∧ (r.cause = .none → t.active (.car b c) .carNotRecalled = false))
          | .mainsFail => t.ssu.mainsFailed = v
              ∧ t.ssu.supply = (if v then (if s.ssu.batteryLow then .batteryLow else .battery) else .mains)
              ∧ t.active (.internal .supply) .supply =
                  (if t.ssu.supply = s.ssu.supply then s.active (.internal .supply) .supply
                    else decide (t.ssu.supply ≠ .mains))
          | .batteryLow => t.ssu.batteryLow = v
              ∧ t.ssu.supply = (if s.ssu.mainsFailed then (if v then .batteryLow else .battery) else .mains)
              ∧ t.active (.internal .supply) .supply =
                  (if t.ssu.supply = s.ssu.supply then s.active (.internal .supply) .supply
                    else decide (t.ssu.supply ≠ .mains))
          | .level2Key => t.cpt = { s.cpt with key2 := v }
          | .level3Key => t.cpt = { s.cpt with key3 := v }
          | .level4Jumper => t.cpt = { s.cpt with jumper4 := v }
          | _ => True)

/-- A LEGACY_CODED point that rings for more than 8 s without a pause reports GENERAL, and its round is invalid (R63); that
the round's fields are empty then is the model's choice (log entry 43). -/
def Obligations.ContinuousRingReportsGeneral : Prop :=
  ∀ (dt : Nat) (p : Point) (s : State) (since : Time), s.serving → s.pointType p = .legacyCoded →
    (s.point p).isolated = false → (s.point p).decoder.continuous = some since → since + seconds 8 < s.now + dt →
    s.rgu.own.length < 16 →
    ∃ t, exec (.continuousRing dt p) s = .next t
      ∧ (⟨none, .legacyGeneral⟩ : Entry) ∈ t.rgu.own ∧ (t.point p).logical = .fire
      ∧ (t.point p).decoder = { (s.point p).decoder with state := .spoiled, closed := [], count := 0, pulseStart := none }
      ∧ (∀ q : Point, q ≠ p → t.point q = s.point q)
      ∧ t.rgu.epoch = s.rgu.epoch ∧ t.rgu.stored = s.rgu.stored ∧ t.sau.released = s.sau.released

/-! ## Leaves, lifts and the annunciator (chapters 6, 7 and 10) -/

/-- Three seconds of disagreement raise LOCK_NOT_FOLLOWING, thirty seconds open with the hold dropped raise
LEAF_NOT_CLOSED, and a car that has been called for its bank's limit without parking raises CAR_NOT_RECALLED; the timer
stops, and no command of any leaf and no output of any car changes (R122, R123, R139). -/
def Obligations.SupervisionTimersRaise : Prop :=
  ∀ (dt : Nat) (s : State) (since : Time), s.serving → s.settled →
    (∀ (st : Stair) (l : LeafRecord), s.lfc.leaves[st] = some l → l.feedbackFrom = some since →
      since + 3 * 9600 ≤ s.now + dt →
      exec (.lockFeedbackTimeout dt st) s = .next (raise (.leaf st) .lockNotFollowing
        ((s.after dt).setLeaf st { l with feedback := some .notFollowing, feedbackFrom := none })))
      ∧ (∀ (st : Stair) (l : LeafRecord), s.lfc.leaves[st] = some l → l.closingFrom = some since →
        since + 30 * 9600 ≤ s.now + dt →
        exec (.leafClosingTimeout dt st) s = .next (raise (.leaf st) .leafNotClosed
          ((s.after dt).setLeaf st { l with closingFrom := none })))
      ∧ (∀ (b : Bank) (c : Car) (cfg : BankConfig) (r : BankRecord), s.ssu.config.banks[b] = some cfg →
        s.lfu.banks[b] = some r → hasCar cfg c = true → r.cars[c].timer = some since →
        since + seconds cfg.limit ≤ s.now + dt →
        ∃ t k, exec (.recallTimerLimit dt b c) s = .next t ∧ t.lfu.banks[b] = some k
          ∧ k = { r with cars := k.cars } ∧ k.cars[c] = { r.cars[c] with timer := none }
          ∧ (∀ d : Car, d ≠ c → k.cars[d] = r.cars[d]) ∧ (∀ b' : Bank, b' ≠ b → t.lfu.banks[b'] = s.lfu.banks[b'])
          ∧ t.active (.car b c) .carNotRecalled = true
          ∧ t = { s.after dt with lfu := t.lfu, eva := t.eva })

/-- Half a second of a FLASHING hat or of the lamps' rhythm turns its outputs over, and so does the step of a buzzer
pattern that pauses (R143, R188, R189). That the rhythm goes on from the moment it fell due is the model's choice
(log entry 2). -/
def Obligations.RhythmsToggle : Prop :=
  ∀ (dt : Nat) (s : State), s.serving → s.settled →
    (∀ (b : Bank) (cfg : BankConfig) (r : BankRecord), s.ssu.config.banks[b] = some cfg → s.lfu.banks[b] = some r →
      r.hat = .flashing → r.hatFrom + 4800 ≤ s.now + dt →
      ∃ t, exec (.hatFlashToggle dt b) s = .next t
        ∧ t.lfu.banks[b] = some { r with hatOn := !r.hatOn, hatFrom := r.hatFrom + 4800 }
        ∧ (∀ b' : Bank, b' ≠ b → t.lfu.banks[b'] = s.lfu.banks[b']) ∧ t = { s.after dt with lfu := t.lfu })
      ∧ (s.eva.lampFrom + 4800 ≤ s.now + dt →
        exec (.lampFlashToggle dt) s = .next { s.after dt with
          eva := { s.eva with lampOn := !s.eva.lampOn, lampFrom := s.eva.lampFrom + 4800 } })
      ∧ (∀ (on off : Time),
        ((s.eva.sounding = some .supervisory ∧ on = 9600 ∧ off = 9600)
          ∨ (s.eva.sounding = some .fault ∧ on = 2400 ∧ off = 16800)
          ∨ (s.eva.sounding = some .notice ∧ on = 960 ∧ off = 95040)) →
        s.eva.buzzerFrom + (if s.eva.buzzerOn then on else off) ≤ s.now + dt →
        exec (.buzzerPatternStep dt) s = .next { s.after dt with
          eva := { s.eva with
            buzzerOn := !s.eva.buzzerOn
            buzzerFrom := s.eva.buzzerFrom + (if s.eva.buzzerOn then on else off) } })

/-! ## Playback and paging (chapter 9) -/

/-- The end of the gap requests the repetition of the phase program: where its clips find room it is admitted, its
rotors turn, the stairs it names are kept, and its first clip is fetched (R160, R161, R167, R171, R172). -/
def Obligations.GapRequestsRepetition : Prop :=
  ∀ (dt : Nat) (s : State) (due : Time) (w : Walk) (n : Nat) (rest : List Nat), s.serving → s.settled →
    s.pbu.playback = .gap → s.pbu.gapExpiry = some due → due ≤ s.now + dt → s.pbu.program ≠ .none →
    s.pbu.inPlay = none → s.pbu.queue = [] → s.ssu.config.unconfigured = false →
    resolve s.walkView s.repetition = .ok w → w.clips = n :: rest → w.clips.length ≤ 32 →
    ∃ t, exec (.gapExpiry dt) s = .next t
      ∧ t.pbu = { s.pbu with
          gapExpiry := none, playback := .playing, waiting := none
          lastNamed := if s.pbu.program = .evacuate then w.named else s.pbu.lastNamed
          queue := [⟨s.repetition, w.clips.map .clip⟩], inPlay := some (.clip n), channel := .header }
      ∧ t.acu = { s.acu with table := advanceRotors w.rotors s.acu.table }
      ∧ t.active (.internal .clipStore) .phraseFault = false
      ∧ t = { s.after dt with pbu := t.pbu, acu := t.acu, eva := t.eva }

/-- A good clip header starts the fetch of its data into the first block; a block that has been filled sounds where none
sounds, from that moment, and the other block is filled next; a block sounded out makes way for the full one, and no
block is sounded out before its samples have had their time, 6/5 of a bit time each (R171 to R173). The length that a
header may have is the model's bound (log entry 15), and that the samples run on from the nominal moment its choice (log
entry 29). A clip whose header fails, as one that the store does not give, whose check does not agree, of another number
or of length 0 does, and one whose data does not come for 2 s, is left at once: CLIP_FAULT is raised and cleared where
its number is not yet among the faulted clips, which it joins, and the next clip of its announcement plays (R172, R173). -/
def Obligations.ClipFetched : Prop :=
  ∀ (dt : Nat) (s : State), s.serving → s.settled →
    (∀ (n : Nat) (h : ClipHeader), s.pbu.channel = .header → s.pbu.inPlay = some (.clip n) → h.checkAgrees = true →
      h.number = n → 1 ≤ h.length → h.length ≤ 65535 →
      exec (.clipHeaderRead dt (some h)) s = .next { s.after dt with
        pbu := { s.pbu with channel := .data h.length, blocks := s.pbu.blocks.set 0 ⟨.filling, []⟩ } })
      ∧ (∀ (left : Nat) (i : Fin 2) (data : List Byte), s.pbu.channel = .data left →
        s.pbu.blockIn .filling = some i → data.length = min 256 left →
        ∃ t, exec (.bufferBlockFilled dt data) s = .next t
          ∧ t.pbu.channel = .data (left - data.length)
          ∧ t.pbu.blocks[i] = ⟨if s.pbu.blockIn .playing = none then .playing else .full, data⟩
          ∧ t.pbu.blocks[otherBlock i] =
              (if s.pbu.blocks[otherBlock i].state = .empty ∧ 0 < left - data.length then ⟨.filling, []⟩
                else s.pbu.blocks[otherBlock i])
          ∧ t.pbu.underrunFrom = (if s.pbu.blockIn .playing = none then none else s.pbu.underrunFrom)
          ∧ t.pbu.soundFrom = (if s.pbu.blockIn .playing = none then s.now + dt else s.pbu.soundFrom)
          ∧ t.pbu.sounded = (if s.pbu.blockIn .playing = none then 0 else s.pbu.sounded)
          ∧ t = { s.after dt with
              pbu := { s.pbu with
                channel := t.pbu.channel, blocks := t.pbu.blocks, underrunFrom := t.pbu.underrunFrom
                soundFrom := t.pbu.soundFrom, sounded := t.pbu.sounded } })
      ∧ (∀ (left : Nat) (i : Fin 2), s.pbu.channel = .data left → s.pbu.blockIn .playing = some i →
        (5 * (s.now + dt - s.pbu.soundFrom) < 6 * (s.pbu.sounded + s.pbu.blocks[i].data.length) →
          exec (.bufferBlockSounded dt) s = .next (s.after dt))
        ∧ (6 * (s.pbu.sounded + s.pbu.blocks[i].data.length) ≤ 5 * (s.now + dt - s.pbu.soundFrom) →
          (s.pbu.blocks[otherBlock i].state = .full →
            ∃ t, exec (.bufferBlockSounded dt) s = .next t
              ∧ t.pbu.blocks[otherBlock i] = ⟨.playing, s.pbu.blocks[otherBlock i].data⟩
              ∧ t.pbu.blocks[i] = (if 0 < left then ⟨.filling, []⟩ else .empty)
              ∧ t = { s.after dt with
                  pbu := { s.pbu with
                    blocks := t.pbu.blocks, sounded := s.pbu.sounded + s.pbu.blocks[i].data.length } })
          ∧ (s.pbu.blocks[otherBlock i].state = .filling →
            exec (.bufferBlockSounded dt) s = .next { s.after dt with
              pbu := { s.pbu with
                blocks := s.pbu.blocks.set i .empty
                underruns := min 65535 (s.pbu.underruns + 1), underrunFrom := some (s.now + dt) } })))
      ∧ (∀ (i : Instr) (n : Nat) (a : Announcement) (c : Clip) (clips : List Clip) (rest : List Announcement),
        s.pbu.inPlay = some (.clip n) → s.pbu.queue = a :: rest → a.clips = .clip n :: c :: clips →
        s.pbu.changePending = false → s.pbu.program ≠ .none → s.pbu.waiting = none → s.pbu.playback = .playing →
        ((s.pbu.channel = .header ∧ ∃ h, i = .clipHeaderRead dt h
            ∧ ∀ x ∈ h, x.checkAgrees = false ∨ x.number ≠ n ∨ x.length = 0)
          ∨ (i = .underrunTimeout dt ∧ ∃ since, s.pbu.underrunFrom = some since ∧ since + 2 * 9600 ≤ s.now + dt)) →
        ∃ t, exec i s = .next t
          ∧ t.pbu = { s.pbu with
              faulted := if n ∈ s.pbu.faulted then s.pbu.faulted else s.pbu.faulted ++ [n]
              queue := { a with clips := c :: clips } :: rest, inPlay := some c, underrunFrom := none
              blocks := Vector.replicate 2 .empty, channel := if c = .tone then .stopped else .header
              toneFrom := if c = .tone then s.now + dt else s.pbu.toneFrom }
          ∧ (n ∈ s.pbu.faulted → t.eva = s.eva)
          ∧ (n ∉ s.pbu.faulted → s.active (.internal .clipStore) .clipFault = false →
              t.active (.internal .clipStore) .clipFault = false
                ∧ (∃ x, t.eva.entry (.internal .clipStore) = some x ∧ Condition.clipFault ∈ x.seen
                    ∧ x.count = match s.eva.entry (.internal .clipStore) with
                      | some y => min 255 (y.count + 1)
                      | none => 1)
                ∧ ∀ src, src ≠ .internal .clipStore → t.eva.entry src = s.eva.entry src)
          ∧ t = { s.after dt with pbu := t.pbu, eva := t.eva })

/-- A walk takes each entry of the phrase table as its kind gives: a CLIP yields its number, a SCRIPT follows its
references in order, a LINK its one, a ROTOR the one at its position, a FLOOR_SLOT speaks the own floor, and a STAIR_SLOT
each of its stairs or else entry 6; a reference from level 6, an EMPTY entry, a 33rd clip, a clip above 1023 and an
unknown floor end it in failure, with the entry and its level (R152 to R157). The stairs are the assigned ones that are
IN_SERVICE. A failed walk is recorded with PHRASE_FAULT, and its announcement is the single tone; a successful one clears
that condition, and leaves the record (R158). That CLIP_RANGE comes before TOO_LONG is the model's reading (log entry
27). -/
def Obligations.WalkResolves : Prop :=
  (∀ (v : WalkView) (deeper : Nat) (e : Ref) (w : Walk), deeper ≤ 5 →
    let level := 6 - deeper
    let follow (r : Ref) (w : Walk) : Except WalkFailure Walk :=
      match deeper with
      | 0 => .error ⟨.depth, e, 6⟩
      | k + 1 => walk v k r w
    let put (w : Walk) (clip : Nat) : Except WalkFailure Walk :=
      if w.clips.length < 32 then .ok { w with clips := w.clips ++ [clip] } else .error ⟨.tooLong, e, level⟩
    walk v deeper e w =
      match v.table[e] with
      | .empty => .error ⟨.emptyEntry, e, level⟩
      | .clip n => put w n
      | .script refs => refs.foldlM (fun w r => follow r w) w
      | .link r => follow r w
      | .rotor refs position =>
        (match refs[position]? with
          | some r => follow r { w with rotors := if e ∈ w.rotors then w.rotors else w.rotors ++ [e] }
          | none => walk v deeper e w)
      | .floorSlot base =>
        (match v.floor with
          | some f => if 1023 < base + f.val then .error ⟨.clipRange, e, level⟩ else put w (base + f.val)
          | none => .error ⟨.noFloor, e, level⟩)
      | .stairSlot base =>
        if v.stairs = [] then follow 6 w
        else v.stairs.foldlM (fun w st =>
          if 1023 < base + number st then .error ⟨.clipRange, e, level⟩
          else (put w (base + number st)).map fun w =>
            { w with named := if st ∈ w.named then w.named else w.named ++ [st] }) w)
  ∧ (∀ (v : WalkView) (roles : List Role), resolve v roles = roles.foldlM (fun w r =>
      walk v 5 (match r with
        | .evacuate => 1 | .alert => 2 | .allClear => 3 | .test => 4 | .stairChanged => 5 | .noStair => 6) w) ⟨[], [], []⟩)
  ∧ ∀ (roles : List Role) (s : State), s.answersUnwalked roles = false →
    let v : WalkView := ⟨s.acu.table, s.ownFloor, s.sau.assigned.filter fun st => s.sau.status[st] == .inService⟩
    (∀ f, resolve v roles = .error f →
      let queued := (s.pbu.queue.map fun a => a.clips.length).sum
      let t := (compose roles s).1
      t.acu = { s.acu with failure := some { roles := roles, failure := f, seconds := (s.now - s.startedAt) / 9600 } }
        ∧ t.active (.internal .clipStore) .phraseFault = true
        ∧ (s.active (.internal .clipStore) .phraseFault = true → t.eva = s.eva)
        ∧ t.pbu = { s.pbu with queue := if queued < 32 then s.pbu.queue ++ [⟨roles, [.tone]⟩] else s.pbu.queue }
        ∧ (compose roles s).2 = (if queued < 32 then .admittedTone (some f.cause) else .notAdmitted 1 []))
    ∧ ∀ w, resolve v roles = .ok w →
      (compose roles s).1.active (.internal .clipStore) .phraseFault = false
        ∧ (compose roles s).1.acu.failure = s.acu.failure

/-- A clip of the store ends when its last sample has had its time, and the built-in tone after 3 s (R171, R172); at that
clip boundary the clip leaves the queue. Where its announcement has clips left the next one plays, and the channel starts
again for a clip of the store. Where it had none left a repetition of the program is followed by the gap, doubled in
BATTERY_LOW (R167), and a one-shot by the announcement behind it, or by silence (R169). A pending change is applied
instead: the queue is flushed, and the first repetition of the program is requested and played, or without a program and
one-shots the station falls silent (R166). That the samples run on from the nominal moment is the model's choice (log
entry 29). -/
def Obligations.ClipBoundaryPlaysNext : Prop :=
  ∀ (dt : Nat) (i : Instr) (s : State) (a : Announcement) (c : Clip) (clips : List Clip) (rest : List Announcement),
    s.serving → s.settled → s.pbu.inPlay = some c → s.pbu.queue = a :: rest → a.clips = c :: clips →
    s.pbu.playback = .playing →
    ((i = .toneEnd dt ∧ c = .tone ∧ s.pbu.toneFrom + 3 * 9600 ≤ s.now + dt)
      ∨ (i = .clipEnd dt ∧ s.pbu.channel = .data 0 ∧ ∃ k, s.pbu.blockIn .playing = some k
          ∧ s.pbu.blocks[otherBlock k].state = .empty
          ∧ 6 * (s.pbu.sounded + s.pbu.blocks[k].data.length) ≤ 5 * (s.now + dt - s.pbu.soundFrom))) →
    let stopped := { s.pbu with
      inPlay := none, underrunFrom := none, blocks := Vector.replicate 2 .empty, channel := .stopped }
    let playing (n : Clip) (queue : List Announcement) : State := { s.after dt with
      pbu := { stopped with
        queue := queue, inPlay := some n, channel := if n = .tone then .stopped else .header
        toneFrom := if n = .tone then s.now + dt else s.pbu.toneFrom } }
    (s.pbu.changePending = false →
      (∀ n more, clips = n :: more → s.pbu.program ≠ .none → s.pbu.waiting = none →
        exec i s = .next (playing n ({ a with clips := n :: more } :: rest)))
      ∧ (clips = [] → rest = [] → (.evacuate ∈ a.roles ∨ .alert ∈ a.roles) → s.pbu.program ≠ .none →
          s.pbu.waiting = none →
        exec i s = .next { s.after dt with
          pbu := { stopped with
            queue := [], playback := .gap
            gapExpiry := some (s.now + dt
              + (if s.ssu.supply = .batteryLow then 2 else 1) * (s.ssu.config.gap * 9600)) } })
      ∧ (clips = [] → .evacuate ∉ a.roles → .alert ∉ a.roles → s.pbu.program = .none → s.pbu.oneShots = [] →
        (rest = [] → exec i s = .next { s.after dt with pbu := { stopped with queue := [], playback := .silent } })
          ∧ ∀ b more n later, rest = b :: more → b.clips = n :: later → exec i s = .next (playing n rest)))
    ∧ (s.pbu.changePending = true → s.pbu.allClearDue = false →
      (s.pbu.program = .none → s.pbu.oneShots = [] →
        exec i s = .next { s.after dt with
          pbu := { stopped with
            queue := [], waiting := none, gapExpiry := none, lastNamed := [], changePending := false
            playback := .silent } })
      ∧ (∀ (w : Walk) (n : Nat) (more : List Nat), s.pbu.program ≠ .none → s.ssu.config.unconfigured = false →
          let roles : List Role := if s.pbu.program = .alert then [.alert] else [.evacuate]
          resolve s.walkView roles = .ok w → w.clips = n :: more → w.clips.length ≤ 32 →
          ∃ t, exec i s = .next t
            ∧ t.pbu = { stopped with
                queue := [⟨roles, w.clips.map .clip⟩], inPlay := some (.clip n), channel := .header
                waiting := none, gapExpiry := none, changePending := false, oneShots := []
                lastNamed := if s.pbu.program = .evacuate then w.named else [] }
            ∧ t.acu = { s.acu with table := advanceRotors w.rotors s.acu.table }
            ∧ t.active (.internal .clipStore) .phraseFault = false
            ∧ t = { s.after dt with pbu := t.pbu, acu := t.acu, eva := t.eva }))

/-- A PAGE START heard while the page view is IDLE starts the page of its sender for ten minutes, and takes the floor
where it is in scope: what plays stops at once. At its sender the own request is OWNED, with PAGE_HELD, and a START_PAGE
that waits is answered ACCEPTED; at another station a START_PAGE that waits is answered BUSY and its entry withdrawn, as it
is where a page is ACTIVE. While a page is ACTIVE a PAGE START leaves it, but at its owner, who yields with SUPERSEDED to
another's; an own one that came too late makes the own request NONE, and one that still waits for its answer is answered
BUSY (R174, R176, R178, R200). A page ends with STOP when its owner's PAGE STOP is heard, with OWNER_LOST when its owner is
LOST, and with TIMEOUT when it has run its time: the view is IDLE and the floor is free, an owned request is over, PAGE_HELD
clears, and the own PAGE STOP that was pending is withdrawn at SUPERSEDED and at TIMEOUT. Any other PAGE STOP leaves the
page, and ends STOP_LATE at its sender (R177). No end of a page answers a START_PAGE. That an entry still in its arbitration
byte is held as LATE or STOP_LATE is the model's reading (log entry 19). -/
def Obligations.PageStartsAndExpires : Prop :=
  ∀ (dt : Nat) (s : State), s.serving →
    let owns := s.pbu.ownRequest = .owned ∨ s.pbu.ownRequest = .stopPending
    let withdrawn (t : State) (missed : OwnRequest) : Prop := s.lineOk →
      match s.lif.inSlot .page with
      | none => t.pbu.ownRequest = .none ∧ t.lif.inSlot .page = none
      | some e =>
        if e.state = .waiting then t.pbu.ownRequest = .none ∧ t.lif.inSlot .page = none
        else t.pbu.ownRequest = missed ∧ t.lif.inSlot .page = some { e with pending := none, withdrawn := true }
    let answered (t : State) (a : Answer) : Prop :=
      t.cpt.inHand = s.cpt.inHand.map fun h => { h with answer := some (answerFrame a []) }
    let kept (t : State) : Prop :=
      t.pbu.page = s.pbu.page ∧ t.pbu.inScope = s.pbu.inScope ∧ t.pbu.lastEnd = s.pbu.lastEnd
    let ended (t : State) (why : PageEnd) : Prop :=
      t.pbu.page = none ∧ t.pbu.inScope = false ∧ t.pbu.lastEnd = some why ∧ t.cpt.inHand = s.cpt.inHand
        ∧ (s.pbu.inScope = true → t.pbu.playback ≠ .paged)
        ∧ (owns → t.active (.internal .console) .pageHeld = false)
    (∀ (bytes : List Byte) (h : Heard) (scope : PageScope), s.lif.rx = .receiving → judge bytes = some h →
      readPayload h.kind h.payload = some (.pageStart scope) →
      let begun (t : State) : Prop :=
        t.pbu.page = some { owner := h.sender, scope := scope, expiry := s.now + dt + 600 * 9600 }
          ∧ t.pbu.inScope = s.inScopeOf scope
          ∧ (s.inScopeOf scope = true → t.pbu.playback = .paged ∧ t.pbu.inPlay = none ∧ t.pbu.channel = .stopped
              ∧ t.pbu.gapExpiry = none ∧ t.pbu.waiting = none)
      ∃ t, exec (.bulletinEnd dt (.complete bytes)) s = .next t
        ∧ t.rgu.own = s.rgu.own ∧ t.rgu.stored = s.rgu.stored ∧ t.rgu.epoch = s.rgu.epoch
        ∧ t.sau.released = s.sau.released
        ∧ (s.lif.tx ≠ .sending →
          (s.pbu.page = none → s.pbu.inScope = false → begun t ∧ t.pbu.lastEnd = s.pbu.lastEnd
            ∧ (s.inScopeOf scope = true → t.pbu.queue = s.pbu.queue)
            ∧ (s.pbu.ownRequest = .startPending → withdrawn t .late ∧ answered t .busy)
            ∧ (s.pbu.ownRequest ≠ .startPending →
                t.pbu.ownRequest = s.pbu.ownRequest ∧ t.cpt.inHand = s.cpt.inHand))
          ∧ (s.pbu.page ≠ none →
            (s.pbu.ownRequest = .startPending → kept t ∧ withdrawn t .late ∧ answered t .busy)
            ∧ (owns → begun t ∧ t.pbu.lastEnd = some .superseded ∧ t.cpt.inHand = s.cpt.inHand
                ∧ t.active (.internal .console) .pageHeld = false
                ∧ if s.pbu.ownRequest = .stopPending then withdrawn t .stopLate else t.pbu.ownRequest = .none)
            ∧ (s.pbu.ownRequest ≠ .startPending → ¬ owns →
                kept t ∧ t.pbu.ownRequest = s.pbu.ownRequest ∧ t.cpt.inHand = s.cpt.inHand)))
        ∧ (s.lif.tx = .sending → s.lineOk →
          (s.pbu.page = none → s.pbu.inScope = false → begun t
            ∧ (s.pbu.ownRequest = .startPending ∨ s.pbu.ownRequest = .late →
                t.pbu.ownRequest = .owned ∧ t.active (.internal .console) .pageHeld = true
                  ∧ if s.pbu.ownRequest = .startPending then answered t .accepted else t.cpt.inHand = s.cpt.inHand))
          ∧ (s.pbu.page ≠ none → kept t
            ∧ (s.pbu.ownRequest = .startPending ∨ s.pbu.ownRequest = .late →
                t.pbu.ownRequest = .none
                  ∧ if s.pbu.ownRequest = .startPending then answered t .busy else t.cpt.inHand = s.cpt.inHand))))
    ∧ (∀ (bytes : List Byte) (h : Heard), s.lif.rx = .receiving → judge bytes = some h →
      readPayload h.kind h.payload = some .pageStop →
      ∃ t, exec (.bulletinEnd dt (.complete bytes)) s = .next t
        ∧ t.rgu.own = s.rgu.own ∧ t.rgu.stored = s.rgu.stored ∧ t.rgu.epoch = s.rgu.epoch
        ∧ t.sau.released = s.sau.released
        ∧ (∀ page ∈ s.pbu.page, page.owner = h.sender → ended t .stop
            ∧ (owns → t.pbu.ownRequest = .none)
            ∧ (¬ owns → s.pbu.ownRequest ≠ .stopLate → t.pbu.ownRequest = s.pbu.ownRequest))
        ∧ ((∀ page ∈ s.pbu.page, page.owner ≠ h.sender) → kept t ∧ t.cpt.inHand = s.cpt.inHand
            ∧ (s.lineOk → t.pbu.ownRequest =
                if s.lif.tx = .sending ∧ s.pbu.ownRequest = .stopLate then .none else s.pbu.ownRequest)))
    ∧ (∀ (page : ActivePage) (r : RosterRecord) (due : Time), s.pbu.page = some page → s.isOwn page.owner = false →
      s.bdr.roster[page.owner] = some r → r.presence = .present → 3 ≤ r.silent + 1 → s.bdr.refreshNext = some due →
      due ≤ s.now + dt →
      ∃ t, exec (.refreshExpiry dt) s = .next t ∧ ended t .ownerLost
        ∧ t.active (.station page.owner) .stationLost = true
        ∧ t.pbu.ownRequest = if owns then .none else s.pbu.ownRequest)
    ∧ ∀ page : ActivePage, s.pbu.page = some page → page.expiry ≤ s.now + dt →
      ∃ t, exec (.pageExpiry dt) s = .next t ∧ ended t .timeout
        ∧ (s.pbu.ownRequest = .stopPending → withdrawn t .stopLate)
        ∧ (s.pbu.ownRequest ≠ .stopPending → t.pbu.ownRequest = if owns then .none else s.pbu.ownRequest)
        ∧ t.rgu = s.rgu ∧ t.sau = s.sau ∧ t.lfc = s.lfc ∧ t.lfu = s.lfu ∧ t.ptu = s.ptu ∧ t.cpt = s.cpt ∧ t.ssu = s.ssu

/-- A speaker circuit's sense is kept as its terminal shows it, with CIRCUIT_FAULT while it is not NORMAL; a circuit
that the configuration does not name has none (R179). -/
def Obligations.CircuitSenseKept : Prop :=
  ∀ (dt : Nat) (n : Circuit) (r : CircuitSense) (s : State), s.serving → s.settled →
    (s.hasCircuit n = true →
      ∃ t, exec (.circuitSenseTaken dt n r) s = .next t
        ∧ t.pbu = { s.pbu with circuits := s.pbu.circuits.set n (some r) }
        ∧ (t.active (.internal .clipStore) (.circuitFault n) = decide (r ≠ .normal))
        ∧ t.circuitSelected n = decide (r = .normal)
        ∧ t = { s.after dt with pbu := t.pbu, eva := t.eva })
      ∧ (s.hasCircuit n = false → exec (.circuitSenseTaken dt n r) s = .next (s.after dt))

/-! ## The console port (chapter 11) -/

/-- A frame that breaks off counts one port error, up to 255, and leaves no request: after 20 ms between two bytes, at a bad
stop bit, at a length byte outside 1..17, and at a check that does not agree over the length byte and the bytes that it
counts. A frame complete while a request is in hand is dropped in the same way, and one complete with none in hand is not
dropped (R40, R192, R193). That a byte timeout counts whenever it comes, in a port that holds no bytes of a frame, is the
model's choice (log entry 12). -/
def Obligations.PortErrorsCounted : Prop :=
  ∀ (dt : Nat) (s : State), s.serving → s.settled →
    let dropped := { s.after dt with cpt := { s.cpt with rx := .hunting, errors := min 255 (s.cpt.errors + 1) } }
    exec (.portByteTimeout dt) s = .next dropped
      ∧ exec (.portFrameDiscarded dt .badStopBit) s = .next dropped
      ∧ (∀ (len : Byte) (rest : List Byte), len.toNat = 0 ∨ 17 < len.toNat →
          exec (.portFrameDiscarded dt (.frame (0x5A :: len :: rest))) s = .next dropped)
      ∧ (∀ (len : Byte) (body check : List Byte), 1 ≤ len.toNat → len.toNat ≤ 17 → body.length = len.toNat →
          check.length = 2 → check ≠ wordBytes (checkCode (len :: body)) →
          exec (.portFrameDiscarded dt (.frame (0x5A :: len :: body ++ check))) s = .next dropped)
      ∧ (∀ (len : Byte) (body : List Byte), 1 ≤ len.toNat → len.toNat ≤ 17 → body.length = len.toNat →
          exec (.portFrameDiscarded dt (.frame (0x5A :: len :: body ++ wordBytes (checkCode (len :: body))))) s
            = .next (if s.cpt.inHand.isSome then dropped else s.after dt))
      ∧ (∀ i code params, requestFrame i = some (dt, code, params) → params.length ≤ 16 → s.cpt.inHand.isSome = true →
          exec i s = .next dropped)

/-- A complete frame that fails its validation is answered RANGE, as every frame of a code that R40 does not give is,
and one whose native level is above the presented level is answered LEVEL; either becomes the request in hand and
changes nothing else (R194 to R197). -/
def Obligations.PortChecksRefuse : Prop :=
  ∀ (dt : Nat) (s : State), s.serving → s.settled → s.cpt.inHand = none →
    let answered (code : Byte) (a : Answer) : Host.Outcome State Fault Refusal := .next { s.after dt with
      cpt := { s.cpt with rx := .hunting, inHand := some ⟨code, some (answerFrame a []), false⟩ } }
    (∀ i code params, requestFrame i = some (dt, code, params) → params.length ≤ 16 →
      (readRequest code params = none → exec i s = answered code .range)
        ∧ ∀ r, readRequest code params = some r → (∀ n, r ≠ .invoke n) → s.level < nativeLevel r →
          exec i s = answered code .level)
      ∧ ∀ code params, knownCode code = false → params.length ≤ 16 →
        exec (.requestCodeUnknown dt code params) s = answered code .range

/-- The three queries are answered ACCEPTED at any level with the data of R202 and R203, and change nothing
(R197, R198). Item 0 of section 0 gives the station's own values, from its number to the delegation entries dropped
(R195, R202). QUERY_EVENTS gives the totals by class and by state, the index, and the entries from that index on in
presentation order, while they fit whole in 254 bytes (R187, R203). QUERY_STAIRS gives the released set, the assigned
stairs and the claim record, and for each configured stair its status, capacity, drain and load, the length of its queue
and its oldest 17 records (R203). The encodings that section 11.5 leaves open, such as the count byte ahead of those
records, and the order of an entry's active conditions are the model's choice (log entry 14). -/
def Obligations.QueriesAnswered : Prop :=
  ∀ (dt : Nat) (s : State), s.serving → s.settled → s.cpt.inHand = none →
    (∀ (v : Fin 4) (item : Nat), item ≤ 63 → (v = 0 → viewItem item = true) →
      exec (.queryView dt [oneByte v.val, oneByte item]) s = .next { s.after dt with
        cpt := { s.cpt with
          rx := .hunting
          inHand := some ⟨0x01, some (answerFrame .accepted (viewBytes v item (s.after dt))), false⟩ } })
      ∧ (∀ first : Nat, first < 128 →
        exec (.queryEvents dt [oneByte first]) s = .next { s.after dt with
          cpt := { s.cpt with
            rx := .hunting
            inHand := some ⟨0x02, some (answerFrame .accepted (eventsBytes first (s.after dt))), false⟩ } })
      ∧ exec (.queryStairs dt []) s = .next { s.after dt with
          cpt := { s.cpt with
            rx := .hunting
            inHand := some ⟨0x03, some (answerFrame .accepted (stairsBytes (s.after dt))), false⟩ } }
      ∧ viewBytes 0 0 (s.after dt) =
          [match s.ssu.station with
            | some n => BitVec.ofNat 8 (n.val + 1)
            | none => 0,
            match s.ownFloor with
            | some f => BitVec.ofNat 8 f.val
            | none => 255,
            match s.ssu.join with
            | .starting => 0
            | .joining => 1
            | .joined => 2,
            BitVec.ofNat 8 (s.rgu.epoch / 256), BitVec.ofNat 8 s.rgu.epoch,
            match s.rgu.phase with
            | .normal => 0
            | .alert => 1
            | .claiming => 2
            | .evacuate => 3,
            match s.rgu.mode with
            | .none => 0
            | .forced => 1
            | .nonForced => 2,
            if s.rgu.silence then 1 else 0,
            match s.ssu.supply with
            | .mains => 0
            | .battery => 1
            | .batteryLow => 2,
            (s.ssu.config.digest >>> 8).setWidth 8, s.ssu.config.digest.setWidth 8,
            if s.cpt.jumper4 then 4 else if s.cpt.key3 then 3 else if s.cpt.key2 then 2 else 1,
            BitVec.ofNat 8 s.cpt.commands,
            if ∃ e ∈ s.lif.queue, e.slot = .regimeReset then 1 else 0,
            BitVec.ofNat 8 s.cpt.errors, BitVec.ofNat 8 s.cpt.dropped]
      ∧ (∀ first : Nat, first < 128 →
        let codes (l : List Condition) : List Byte :=
          BitVec.ofNat 8 l.length :: l.map fun c => BitVec.ofNat 8 c.code
        let item (e : EventEntry) : List Byte :=
          [BitVec.ofNat 8 (sourceNumber e.source), BitVec.ofNat 8 (eventClassCode e.cls),
            match e.state with
            | .activeUnack => 0
            | .activeAck => 1
            | .clearedUnack => 2,
            BitVec.ofNat 8 (e.first / 16777216), BitVec.ofNat 8 (e.first / 65536), BitVec.ofNat 8 (e.first / 256),
            BitVec.ofNat 8 e.first, BitVec.ofNat 8 e.count] ++ codes e.active ++ codes e.seen
        let total (p : EventEntry → Bool) : Byte := BitVec.ofNat 8 (s.eva.entries.countP p)
        ∃ order shown rest : List EventEntry,
          order.Perm s.eva.entries ∧ order.Pairwise (fun a b => ¬ b.rank < a.rank) ∧ order.drop first = shown ++ rest
            ∧ eventsBytes first (s.after dt) =
              [total (·.cls == .fire), total (·.cls == .supervisory), total (·.cls == .fault), total (·.cls == .notice),
                total (·.state == .activeUnack), total (·.state == .activeAck), total (·.state == .clearedUnack),
                BitVec.ofNat 8 first, BitVec.ofNat 8 shown.length] ++ shown.flatMap item
            ∧ (eventsBytes first (s.after dt)).length ≤ 254
            ∧ ∀ e ∈ rest.head?, 254 < (eventsBytes first (s.after dt)).length + (item e).length)
      ∧ stairsBytes (s.after dt) =
          (List.range 8).map (fun k => s.sau.released.extractLsb' (8 * k) 8)
            ++ BitVec.ofNat 8 s.sau.assigned.length :: s.sau.assigned.map (fun st => BitVec.ofNat 8 (st.val + 1))
            ++ ([match s.sau.claim.state with
                | .none => 0
                | .queued => 1
                | .fixed => 2,
                match s.sau.claim.mode with
                | .forced => 0
                | .nonForced => 1,
                if s.sau.claim.oldCopy then 1 else 0] : List Byte)
            ++ ((List.finRange 4).filter fun st => st.val < s.ssu.config.stairCount).flatMap fun st =>
              ([match s.sau.status[st] with
                | .inService => 0
                | .smokeLogged => 1,
                BitVec.ofNat 8 (s.ssu.config.capacity[st] / 256), BitVec.ofNat 8 s.ssu.config.capacity[st],
                BitVec.ofNat 8 s.ssu.config.drain[st],
                BitVec.ofNat 8 (s.sau.load st / 256), BitVec.ofNat 8 (s.sau.load st),
                BitVec.ofNat 8 s.sau.queues[st].length, BitVec.ofNat 8 (min 17 s.sau.queues[st].length)] : List Byte)
                ++ (s.sau.queues[st].take 17).flatMap fun r =>
                  ([match r.floor with
                    | some f => BitVec.ofNat 8 f.val
                    | none => 255,
                    BitVec.ofNat 8 (r.persons / 256), BitVec.ofNat 8 r.persons] : List Byte)

/-- ACKNOWLEDGE turns every unacknowledged active entry to ACTIVE_ACK, with its conditions seen cut back to its active
ones, removes every cleared one, leaves the rest, and answers how many of each (R186). -/
def Obligations.AcknowledgeTaken : Prop :=
  ∀ (dt : Nat) (s : State), s.serving → s.settled → s.cpt.inHand = none → 2 ≤ s.level →
    ∃ t, exec (.acknowledge dt []) s = .next t
      ∧ t.eva.entries = (s.eva.entries.filter fun e => e.state != .clearedUnack).map (fun e =>
          if e.state = .activeUnack then
            { e with state := .activeAck, seen := e.seen.filter fun c => e.active.contains c }
          else e)
      ∧ t.eva.sounding = none
      ∧ t.cpt = { s.cpt with
          rx := .hunting
          inHand := some ⟨0x11, some (answerFrame .accepted
            [oneByte (s.eva.entries.countP fun e => e.state == .activeUnack),
              oneByte (s.eva.entries.countP fun e => e.state == .clearedUnack)]), false⟩ }
      ∧ t = { s.after dt with eva := t.eva, cpt := t.cpt }

/-- SILENCE_ALERT, UNLOCK_STAIRS, MANUAL_RECALL and CANCEL_RECALL queue a COMMAND with the presented level, of which
the queue takes two; the third is answered BUSY and changes nothing. Nothing that the command asks for has come about
until it is heard (R13, R199). -/
def Obligations.CommandsOffered : Prop :=
  ∀ (dt : Nat) (s : State) (i : Instr) (code : Byte) (cmd : Command) (native : Nat), s.serving → s.settled →
    s.cpt.inHand = none → native ≤ s.level →
    ((i = .silenceAlert dt [] ∧ code = 0x12 ∧ cmd = .silenceAlert ∧ native = 2)
      ∨ (i = .unlockStairs dt [] ∧ code = 0x13 ∧ cmd = .unlockStairs ∧ native = 2)
      ∨ (∃ b : Bank, i = .manualRecall dt [oneByte (number b)] ∧ code = 0x24 ∧ cmd = .manualRecall b ∧ native = 3)
      ∨ (∃ b : Bank, i = .cancelRecall dt [oneByte (number b)] ∧ code = 0x25 ∧ cmd = .cancelRecall b ∧ native = 3)) →
    (s.lif.tx ≠ .off → s.cpt.commands < 2 → s.lif.filled .command < 2 →
      exec i s = .next { s.after dt with
        lif := { s.lif with queue := s.lif.queue ++ [newTxEntry (.command cmd s.level) (s.now + dt)] }
        cpt := { s.cpt with
          rx := .hunting, commands := s.cpt.commands + 1
          inHand := some ⟨code, some (answerFrame .accepted []), false⟩ } })
      ∧ ((s.lif.tx = .off ∨ 2 ≤ s.cpt.commands) →
        exec i s = .next { s.after dt with
          cpt := { s.cpt with rx := .hunting, inHand := some ⟨code, some (answerFrame .busy []), false⟩ } })

/-- RESET_REGIME queues a REGIME_RESET for the next epoch and answers it; FORCE_CHECK_ERROR queues a TEST with the
test sequence number, answers that number, and moves it on, from 255 to 0 (R19, R86, R199). -/
def Obligations.ResetAndTestOffered : Prop :=
  ∀ (dt : Nat) (s : State), s.serving → s.settled → s.cpt.inHand = none → s.lif.tx ≠ .off →
    (3 ≤ s.level → s.rgu.epoch < 65535 → s.lif.filled .regimeReset = 0 →
      exec (.resetRegime dt []) s = .next { s.after dt with
        lif := { s.lif with
          queue := s.lif.queue ++ [newTxEntry (.regimeReset (s.rgu.epoch + 1) s.level) (s.now + dt)] }
        cpt := { s.cpt with
          rx := .hunting, inHand := some ⟨0x21, some (answerFrame .accepted (twoBytes (s.rgu.epoch + 1))), false⟩ } })
      ∧ (3 ≤ s.level → 65535 ≤ s.rgu.epoch →
        exec (.resetRegime dt []) s = .next { s.after dt with
          cpt := { s.cpt with rx := .hunting, inHand := some ⟨0x21, some (answerFrame .state []), false⟩ } })
      ∧ (4 ≤ s.level → s.lif.filled .test = 0 →
        exec (.forceCheckError dt []) s = .next { s.after dt with
          lif := { s.lif with
            queue := s.lif.queue ++ [newTxEntry (.test s.lif.testSequence) (s.now + dt)]
            testSequence := (s.lif.testSequence + 1) % 256 }
          cpt := { s.cpt with
            rx := .hunting, inHand := some ⟨0x31, some (answerFrame .accepted [oneByte s.lif.testSequence]), false⟩ } })

/-- A security request acts on its leaf alone: SECURITY_LOCK locks a leaf of a re-entry floor and ends a
SECURITY_FREE elsewhere, and SECURITY_FREE the reverse; where the leaf may have no override the request is answered
STATE and no command changes (R119, R120). -/
def Obligations.SecurityRequestTaken : Prop :=
  ∀ (dt : Nat) (s : State) (st : Stair) (l : LeafRecord) (lock : Bool), s.serving → s.settled → s.leavesAgree →
    s.cpt.inHand = none → 2 ≤ s.level → s.lfc.leaves[st] = some l →
    let i := if lock then Instr.securityLock dt [oneByte (number st)] else Instr.securityFree dt [oneByte (number st)]
    let code : Byte := if lock then 0x14 else 0x15
    (s.ssu.join = .joined → s.rgu.phase = .normal → s.sau.status[st] = .inService → s.lfc.unlockAll = false →
      ∃ t k, exec i s = .next t ∧ t.lfc.leaves[st] = some k
        ∧ k.security = (if lock = s.ssu.config.reentryFloor then (if lock then .lock else .free) else .none)
        ∧ k.lock = (if lock then .locked else .released) ∧ k.hold = l.hold ∧ k.position = l.position
        ∧ (∀ st' : Stair, st' ≠ st → ∀ k' ∈ t.lfc.leaves[st'], ∃ l', s.lfc.leaves[st'] = some l' ∧ k'.lock = l'.lock
            ∧ k'.hold = l'.hold ∧ k'.security = l'.security ∧ k'.position = l'.position ∧ k'.engaged = l'.engaged)
        ∧ (t.active (.leaf st) .securityOverride = (k.security != .none))
        ∧ t.cpt = { s.cpt with rx := .hunting, inHand := some ⟨code, some (answerFrame .accepted []), false⟩ }
        ∧ t = { s.after dt with lfc := t.lfc, eva := t.eva, cpt := t.cpt })
      ∧ ((s.ssu.join = .joining ∨ s.rgu.phase ≠ .normal ∨ s.sau.status[st] = .smokeLogged ∨ s.lfc.unlockAll = true) →
        s.active (.leaf st) .reentryRefused = false →
        ∃ t, exec i s = .next t
          ∧ (∃ e, t.eva.entry (.leaf st) = some e ∧ Condition.reentryRefused ∈ e.seen)
          ∧ t.cpt = { s.cpt with rx := .hunting, inHand := some ⟨code, some (answerFrame .state []), false⟩ }
          ∧ t = { s.after dt with eva := t.eva, cpt := t.cpt })

/-- START_PAGE of an IDLE page queues its PAGE START and waits for its outcome without an answer; STOP_PAGE of an owned
page queues its PAGE STOP and is answered at once (R175, R200). -/
def Obligations.PageRequested : Prop :=
  ∀ (dt : Nat) (s : State), s.serving → s.settled → s.cpt.inHand = none → 2 ≤ s.level → s.lif.tx ≠ .off →
    s.lif.inSlot .page = none →
    (∀ (scope : Byte) (flags : List Byte) (v : PageScope), readScope scope flags = some v → flags.length = 8 →
      s.pbu.page = none → s.pbu.ownRequest = .none →
      ∃ t, exec (.startPage dt (scope :: flags)) s = .next t
        ∧ t.pbu = { s.pbu with ownRequest := .startPending }
        ∧ t.lif = { s.lif with queue := s.lif.queue ++ [newTxEntry (.pageStart v) (s.now + dt)] }
        ∧ t.cpt = { s.cpt with rx := .hunting, inHand := some ⟨0x16, none, false⟩ }
        ∧ t = { s.after dt with pbu := t.pbu, lif := t.lif, cpt := t.cpt, eva := t.eva })
      ∧ (s.pbu.ownRequest = .owned →
        ∃ t, exec (.stopPage dt []) s = .next t
          ∧ t.pbu = { s.pbu with ownRequest := .stopPending }
          ∧ t.lif = { s.lif with queue := s.lif.queue ++ [newTxEntry .pageStop (s.now + dt)] }
          ∧ t.cpt = { s.cpt with rx := .hunting, inHand := some ⟨0x17, some (answerFrame .accepted []), false⟩ }
          ∧ t = { s.after dt with pbu := t.pbu, lif := t.lif, cpt := t.cpt, eva := t.eva })

/-- ISOLATE_POINT isolates a point that is neither isolated nor a key point, and RESTORE_POINT returns it with its count
at 0, no good reading and its filter starting afresh; a request for a state the point already has is answered STATE
(R56, R57). -/
def Obligations.IsolationTaken : Prop :=
  ∀ (dt : Nat) (s : State) (p : Point), s.serving → s.settled → s.cpt.inHand = none → 3 ≤ s.level →
    ((s.point p).isolated = false → keyType (s.pointType p) = false →
      ∃ t, exec (.isolatePoint dt [oneByte p.val]) s = .next t
        ∧ (t.point p).isolated = true ∧ (∀ q : Point, q ≠ p → t.point q = s.point q)
        ∧ t.rgu.own = s.rgu.own ∧ t.sau = s.sau
        ∧ (t.cpt.inHand = some ⟨0x22, some (answerFrame .accepted []), false⟩))
      ∧ ((s.point p).isolated = true →
        ∃ t, exec (.restorePoint dt [oneByte p.val]) s = .next t
          ∧ (t.point p).isolated = false ∧ (t.point p).unconfirmed = 0 ∧ (t.point p).lastGood = none
          ∧ (t.point p).filterFrom = s.now + dt ∧ (∀ q : Point, q ≠ p → t.point q = s.point q)
          ∧ t.rgu.own = s.rgu.own ∧ t.sau = s.sau
          ∧ (t.cpt.inHand = some ⟨0x23, some (answerFrame .accepted []), false⟩))
      ∧ (((s.point p).isolated = true ∨ keyType (s.pointType p) = true) →
        exec (.isolatePoint dt [oneByte p.val]) s = .next { s.after dt with
          cpt := { s.cpt with rx := .hunting, inHand := some ⟨0x22, some (answerFrame .state []), false⟩ } })
      ∧ ((s.point p).isolated = false →
        exec (.restorePoint dt [oneByte p.val]) s = .next { s.after dt with
          cpt := { s.cpt with rx := .hunting, inHand := some ⟨0x23, some (answerFrame .state []), false⟩ } })

/-- TEST_ANNOUNCE in NORMAL, with no TEST due and no page on the floor, is answered ACCEPTED and its TEST joins the
one-shots: behind what plays, or at once as an announcement where the floor is silent and the walk has its clips
(R169, R170). -/
def Obligations.TestAnnounceTaken : Prop :=
  ∀ (dt : Nat) (s : State), s.serving → s.settled → s.cpt.inHand = none → 3 ≤ s.level → s.rgu.phase = .normal →
    OneShot.test ∉ s.pbu.oneShots → (∀ a ∈ s.pbu.queue, Role.test ∉ a.roles) →
    (s.pbu.playback = .playing ∨ s.pbu.playback = .gap →
      exec (.testAnnounce dt []) s = .next { s.after dt with
        pbu := { s.pbu with oneShots := s.pbu.oneShots ++ [.test] }
        cpt := { s.cpt with rx := .hunting, inHand := some ⟨0x26, some (answerFrame .accepted []), false⟩ } })
      ∧ (∀ (w : Walk) (n : Nat) (rest : List Nat), s.pbu.playback = .silent → s.pbu.program = .none →
        s.pbu.oneShots = [] → s.pbu.queue = [] → s.pbu.inPlay = none → resolve s.walkView [.test] = .ok w →
        w.clips = n :: rest → w.clips.length ≤ 32 →
        ∃ t, exec (.testAnnounce dt []) s = .next t
          ∧ t.pbu = { s.pbu with
              playback := .playing, waiting := none, queue := [⟨[.test], w.clips.map .clip⟩], inPlay := some (.clip n)
              channel := .header }
          ∧ t.cpt = { s.cpt with rx := .hunting, inHand := some ⟨0x26, some (answerFrame .accepted []), false⟩ }
          ∧ t = { s.after dt with pbu := t.pbu, acu := t.acu, eva := t.eva, cpt := t.cpt })

/-- SET_BUZZER_MASK replaces the three flags whole, keeps BUZZER_MASKED while one is set, and derives the buzzer again;
no entry of another source changes (R190). -/
def Obligations.BuzzerMaskSet : Prop :=
  ∀ (dt : Nat) (s : State) (m : BuzzerMask), s.serving → s.settled → s.cpt.inHand = none → 3 ≤ s.level →
    let code := (if m.supervisory then 1 else 0) + (if m.fault then 2 else 0) + (if m.notice then 4 else 0)
    ∃ t, exec (.setBuzzerMask dt [oneByte code]) s = .next t
      ∧ t.eva.mask = m ∧ t.eva.sounding = t.eva.sounded
      ∧ (t.active (.internal .console) .buzzerMasked = (m.supervisory || m.fault || m.notice))
      ∧ (∀ src, src ≠ .internal .console → t.eva.entry src = s.eva.entry src)
      ∧ t.cpt = { s.cpt with rx := .hunting, inHand := some ⟨0x27, some (answerFrame .accepted []), false⟩ }
      ∧ t = { s.after dt with eva := t.eva, cpt := t.cpt }

/-- RESTART_STATION is answered ACCEPTED with no data, and the restart follows when the last byte of that answer has
been sent: every block is at its reset values and the start sequence has begun; that the rhythm of the lamps runs on through
the restart is the model's reading (log entry 17). Until the station has entered JOINING again it answers nothing. A
FORCE_CHECK_ERROR is answered when its TEST is queued (R201). -/
def Obligations.RestartFollowsAnswer : Prop :=
  (∀ (dt : Nat) (s : State), s.serving → s.settled → s.cpt.inHand = none → 4 ≤ s.level →
    exec (.restartStation dt []) s = .next { s.after dt with
      cpt := { s.cpt with rx := .hunting, inHand := some ⟨0x32, some (answerFrame .accepted []), true⟩ } })
  ∧ (∀ (dt : Nat) (straps : Fin 64) (s : State) (h : InHand), s.serving → s.settled → s.cpt.inHand = some h →
      h.answer.isSome = true → h.restart = true →
      exec (.answerSent dt straps) s = .next (beginStart straps { State.reset with
        now := s.now + dt, startedAt := s.now + dt
        eva := { Eva.reset with lampOn := s.eva.lampOn, lampFrom := s.eva.lampFrom }, pending := s.pending }))
  ∧ (∀ (i : Instr) (dt : Nat) (code : Byte) (params : List Byte) (s : State), s.live = true → s.entered = false →
      requestFrame i = some (dt, code, params) → exec i s = .next (s.after dt))
  ∧ (∀ (dt : Nat) (s : State), s.serving → s.cpt.inHand = none → 4 ≤ s.level → s.lif.tx ≠ .off →
      s.lif.filled .test = 0 →
      ∃ t h e, exec (.forceCheckError dt []) s = .next t ∧ t.lif.inSlot .test = some e ∧ t.cpt.inHand = some h
        ∧ h.answer = some (answerFrame .accepted [oneByte s.lif.testSequence]))

/-- The last byte of an answer that is no restart's returns the port to no request in hand (R193). That ANSWER_SENT while
the answer is still awaited, whose cause does not stand, changes the clock alone is the model's choice (log entry 1). -/
def Obligations.AnswerSentFreesPort : Prop :=
  ∀ (dt : Nat) (straps : Fin 64) (s : State) (h : InHand), s.serving → s.settled → s.cpt.inHand = some h →
    (h.answer.isSome = true → h.restart = false →
      exec (.answerSent dt straps) s = .next { s.after dt with cpt := { s.cpt with inHand := none } })
      ∧ (h.answer = none → exec (.answerSent dt straps) s = .next (s.after dt))

/-- INVOKE runs the request of its entry, whatever it is, at the level that the entry requires: from the state check on
the outcome is the one that the request itself gives, with the code of INVOKE in hand. An entry that is not present is
answered ABSENT, one that requires more than the presented level LEVEL, and a number from 16 on RANGE (R194, R205). The
example of a mask shows a delegated request below its native level. -/
def Obligations.InvokeDelegates : Prop :=
  ∀ (dt : Nat) (s : State), s.serving → s.settled → s.cpt.inHand = none →
    (∀ b : Byte, 16 ≤ b.toNat →
      exec (.invoke dt [b]) s = .next { s.after dt with
        cpt := { s.cpt with rx := .hunting, inHand := some ⟨0x40, some (answerFrame .range []), false⟩ } })
    ∧ ∀ n : Fin 16,
      (s.cpt.delegation[n] = none →
        exec (.invoke dt [oneByte n.val]) s = .next { s.after dt with
          cpt := { s.cpt with rx := .hunting, inHand := some ⟨0x40, some (answerFrame .absent []), false⟩ } })
      ∧ ∀ d, s.cpt.delegation[n] = some d →
        let inHand (code : Byte) : State := { s.after dt with
          cpt := { s.cpt with rx := .hunting, inHand := some ⟨code, none, false⟩ } }
        (s.level < d.level →
          exec (.invoke dt [oneByte n.val]) s = .next { s.after dt with
            cpt := { s.cpt with rx := .hunting, inHand := some ⟨0x40, some (answerFrame .level []), false⟩ } })
        ∧ (d.level ≤ s.level →
          exec (.invoke dt [oneByte n.val]) s = .next (finish (s.after dt) (perform d.request (inHand 0x40))))
        ∧ (∀ i code params, requestFrame i = some (dt, code, params) → params.length ≤ 16 →
          readRequest code params = some d.request → (∀ k, d.request ≠ .invoke k) → nativeLevel d.request ≤ s.level →
          exec i s = .next (finish (s.after dt) (perform d.request (inHand code))))
        ∧ (∀ m, d.level ≤ s.level → d.request = .setBuzzerMask m →
          ∃ t, exec (.invoke dt [oneByte n.val]) s = .next t ∧ t.eva.mask = m
            ∧ t.cpt = { s.cpt with rx := .hunting, inHand := some ⟨0x40, some (answerFrame .accepted []), false⟩ }
            ∧ t = { s.after dt with eva := t.eva, cpt := t.cpt })

/-! ## Encodings (chapter 2) and functions -/

/-- Every content in the ranges of R39 reads back from its payload as it was written. -/
def Obligations.PayloadReadsBack : Prop :=
  ∀ c : Content, c.inRange = true → readPayload c.kind c.payload = some c

/-- A bulletin as its sender puts it on the line is judged good, with its sender, its kind and its payload, at every
class; and a TEST, whose check bytes are inverted, fails at every receiver (R1, R3, R19, R38). -/
def Obligations.BulletinJudged : Prop :=
  ∀ (cls : BulletinClass) (sender : Sender) (c : Content), c.inRange = true →
    judge (bulletinBytes cls sender c)
      = match c with
        | .test _ => none
        | _ => some { sender := sender, kind := c.kind, payload := c.payload }

/-- The counts of a split sum to the occupancy while a stair is IN_SERVICE, are 0 while none is, and are 0 for every
stair that is SMOKE_LOGGED or beyond the stair count (R95, R96). -/
def Obligations.SplitSumsToOccupancy : Prop :=
  ∀ (cfg : StationConfig) (status : Vector StairStatus 4),
    ((∃ st : Stair, st.val < cfg.stairCount ∧ status[st] = .inService) →
        (split cfg status).toList.sum = cfg.occupancy)
      ∧ ((∀ st : Stair, st.val < cfg.stairCount → status[st] = .smokeLogged) → (split cfg status).toList.sum = 0)
      ∧ (∀ st : Stair, (status[st] = .smokeLogged ∨ cfg.stairCount ≤ st.val) → (split cfg status)[st] = 0)

/-- An admitted announcement advances every rotor that its walk reached by one position, once, from the last to 0, and
no other entry; an announcement that finds no room, and the fallback, advance none (R160). -/
def Obligations.RotorsAdvanceOnce : Prop :=
  ∀ (roles : List Role) (s : State),
    (∀ w, s.answersUnwalked roles = false → resolve s.walkView roles = .ok w → w.clips.length ≤ s.pbu.room →
      ∀ e : Ref, (compose roles s).1.acu.table[e] =
        match s.acu.table[e] with
        | .rotor refs position =>
          if e ∈ w.rotors then .rotor refs (if position + 1 < refs.length then position + 1 else 0)
          else .rotor refs position
        | p => p)
      ∧ (∀ w, resolve s.walkView roles = .ok w → s.pbu.room < w.clips.length →
        (compose roles s).1.acu.table = s.acu.table)
      ∧ (∀ f, resolve s.walkView roles = .error f → (compose roles s).1.acu.table = s.acu.table)
      ∧ (s.answersUnwalked roles = true → (compose roles s).1.acu.table = s.acu.table)

/-- A phrase table image whose check agrees loads record by record: a record that R148 fails gives an EMPTY entry and
adds one to the invalid-entry count, which is 0 before the load, and every other record stands as it is (R148). -/
def Obligations.FailedRecordsLoadEmpty : Prop :=
  ∀ (im : PhraseImage) (cfg : StationConfig) (acu : Acu), im.checkAgrees = true → im.records.length = 256 →
    let fails : RawPhrase → Bool
      | .unknown => true
      | .clip n => 1023 < n
      | .script refs => refs.length = 0 || 8 < refs.length
      | .rotor refs position => refs.length < 2 || 4 < refs.length || refs.length ≤ position
      | .floorSlot base => 1023 < base
      | .stairSlot base => 1023 < base
      | .link _ => false
      | .empty => false
    State.reset.acu.invalid = 0
      ∧ (loadTable im cfg acu).invalid = (im.records.filter fails).length ∧ (loadTable im cfg acu).invalid ≤ 256
      ∧ ∀ (e : Ref) (r : RawPhrase), im.records[e.val]? = some r →
        (loadTable im cfg acu).table[e] =
          if fails r then .empty
          else match r with
            | .clip n => .clip n
            | .script refs => .script refs
            | .link ref => .link ref
            | .rotor refs position => .rotor refs position
            | .floorSlot base => .floorSlot base
            | .stairSlot base => .stairSlot base
            | .empty => .empty
            | .unknown => .empty

/-! ## What every step keeps -/

/-- The state after reset meets every invariant below, the bound of a stair's load among them. -/
def Obligations.ResetMeetsInvariants : Prop :=
  State.reset.eva.ok ∧ State.reset.lineOk ∧ State.reset.phaseAgrees ∧ State.reset.leavesAgree ∧ State.reset.liftsAgree
    ∧ State.reset.settled ∧ State.reset.queuesOk ∧ State.reset.ownSetOk ∧ State.reset.speakerOk
    ∧ State.reset.programAgrees ∧ State.reset.supplyAgrees
    ∧ ∀ st : Stair, State.reset.sau.load st ≤ 1023 * flagCount State.reset.sau.released

/-- The event list keeps one entry for a source at most, in the order of the sources, each as R182 describes it, and
the buzzer sounds the class that R189 gives. -/
def Obligations.EventListKept : Prop :=
  ∀ s t : State, s.eva.ok → step s = .next t → t.eva.ok

/-- The transmit queue keeps its holding rules and its entries as R12 and R13 describe them, and exactly the entry that
the transmitter sends stands on the line. -/
def Obligations.TransmitQueueKept : Prop :=
  ∀ s t : State, s.lineOk → step s = .next t → t.lineOk

/-- A station is in EVACUATE exactly while its own floor is in the released set; without a known floor it stays in
NORMAL or ALERT; and it has a claim mode exactly in CLAIMING (R73 to R80). -/
def Obligations.PhaseFollowsRelease : Prop :=
  ∀ s t : State, s.sequenced → s.phaseAgrees → step s = .next t → t.sequenced ∧ t.phaseAgrees

/-- Every leaf has, after every event, the lock and hold commands that R114 and R115 give line by line, and a security
override only in NORMAL with its stair IN_SERVICE. -/
def Obligations.LeafCommandsFollow : Prop :=
  (∀ (s : State) (st : Stair) (security : Security),
    s.lockCommand st security =
        (if s.ssu.join = .joining then .released
        else if s.rgu.phase = .alert ∨ s.rgu.phase = .claiming ∨ s.rgu.phase = .evacuate then .released
        else if s.sau.status[st] = .smokeLogged then .released
        else if s.lfc.unlockAll = true then .released
        else if security = .lock then .locked
        else if security = .free then .released
        else if s.ssu.config.reentryFloor = true then .released
        else .locked)
      ∧ s.holdCommand st =
        (if s.ssu.join = .joining then .dropped
        else if s.rgu.phase = .alert ∨ s.rgu.phase = .claiming ∨ s.rgu.phase = .evacuate then .dropped
        else if s.sau.status[st] = .smokeLogged then .dropped
        else if s.ssu.supply = .battery ∨ s.ssu.supply = .batteryLow then .dropped
        else .held))
  ∧ ∀ s t : State, s.sequenced → s.leavesAgree → step s = .next t → t.leavesAgree

/-- Every bank's cause follows its latch and its flag, its landing and its hat follow its cause and its alarm, and its
cars and their outputs are as its recall leaves them (R128, R129, R132, R135, R136, R143). -/
def Obligations.RecallsKept : Prop :=
  ∀ s t : State, s.sequenced → s.liftsAgree → step s = .next t → t.liftsAgree

/-- A queued STATUS and the own roster record carry the station's values as they stand after every event (R29, R31). -/
def Obligations.StatusFollowsValues : Prop :=
  ∀ s t : State, s.lineOk → s.settled → step s = .next t → t.settled

/-- Every record of a stair queue holds somebody, belongs to the own epoch and names a released floor, each floor once;
and a stair's load is at most 1023 persons for each released floor, so that two bytes always hold it (R92, R93). -/
def Obligations.StairQueuesKept : Prop :=
  (∀ s t : State, s.queuesOk → (∀ st : Stair, s.sau.load st ≤ 1023 * flagCount s.sau.released) → step s = .next t →
    t.queuesOk ∧ ∀ st : Stair, t.sau.load st ≤ 1023 * flagCount t.sau.released)
  ∧ ∀ fs : Flags, 1023 * flagCount fs ≤ 65535

/-- The own contribution set keeps at most 16 entries and none twice, the speaker queue at most 32 clips and no empty
announcement, and the phase program and the supply state follow what they are derived from (R65, R159, R165, R211). -/
def Obligations.DerivedValuesKept : Prop :=
  (∀ s t : State, s.ownSetOk → step s = .next t → t.ownSetOk)
  ∧ (∀ s t : State, s.speakerOk → step s = .next t → t.speakerOk)
  ∧ (∀ s t : State, s.sequenced → s.programAgrees → step s = .next t → t.programAgrees)
  ∧ (∀ s t : State, s.supplyAgrees → step s = .next t → t.supplyAgrees)

/-- The own epoch never falls, but at a power-on, a pin reset or a restart, where it is 0 again (R85, R87). -/
def Obligations.EpochNeverFalls : Prop :=
  ∀ (i : Instr) (s t : State), exec i s = .next t →
    if restarts i s then (s.serving ∨ ∀ dt straps, i ≠ .answerSent dt straps) → t.rgu.epoch = 0
    else s.rgu.epoch ≤ t.rgu.epoch

end
end

