-- ==== Sys2Proof/Laws/Answers.lean ====
section
/-! SUPPORT. What the answer of QUERY_EVENTS shows (R187, R203): the presentation order, and the entries that fit. -/

namespace Sys2Proof.Machine

open Sys2Proof

/-- An entry comes before another exactly where it does not rank behind it. -/
theorem before_iff (a b : EventEntry) : a.before b = true ↔ ¬ b.rank < a.rank := by
  simp only [EventEntry.before, EventEntry.rank, Bool.or_eq_true, Bool.and_eq_true, decide_eq_true_eq, beq_iff_eq,
    List.cons_lt_cons_iff, List.lt_irrefl, and_false, or_false]
  omega

theorem rank_trans {a b c : EventEntry} (h : ¬ b.rank < a.rank) (k : ¬ c.rank < b.rank) : ¬ c.rank < a.rank := by
  simp only [EventEntry.rank, List.cons_lt_cons_iff, List.lt_irrefl, and_false, or_false] at h k ⊢
  omega

theorem presentInto_perm (e : EventEntry) (l : List EventEntry) : (presentInto e l).Perm (e :: l) := by
  induction l with
  | nil => exact .refl _
  | cons x l ih =>
    unfold presentInto
    split
    · exact .refl _
    · exact (ih.cons x).trans (.swap _ _ _)

theorem presentInto_sorted (e : EventEntry) (l : List EventEntry)
    (h : l.Pairwise fun a b => ¬ b.rank < a.rank) : (presentInto e l).Pairwise fun a b => ¬ b.rank < a.rank := by
  induction l with
  | nil => simp [presentInto]
  | cons x l ih =>
    rw [List.pairwise_cons] at h
    unfold presentInto
    split
    · next hb =>
      rw [before_iff] at hb
      refine List.pairwise_cons.mpr ⟨fun b hm => ?_, List.pairwise_cons.mpr h⟩
      rcases List.mem_cons.mp hm with rfl | hm
      · exact hb
      · exact rank_trans hb (h.1 b hm)
    · next hb =>
      refine List.pairwise_cons.mpr ⟨fun b hm => ?_, ih h.2⟩
      rcases List.mem_cons.mp ((presentInto_perm e l).mem_iff.mp hm) with rfl | hm
      · rw [before_iff] at hb
        exact fun hc => hb fun hd => by
          simp only [EventEntry.rank, List.cons_lt_cons_iff, List.lt_irrefl, and_false, or_false] at hc hd
          omega
      · exact h.1 b hm

/-- The presentation order holds the entries of the list, each once. -/
theorem presentation_perm (l : List EventEntry) : (presentation l).Perm l := by
  induction l with
  | nil => exact .refl _
  | cons x l ih => exact (presentInto_perm x _).trans (ih.cons x)

/-- No entry stands behind one that ranks behind it. -/
theorem presentation_sorted (l : List EventEntry) : (presentation l).Pairwise fun a b => ¬ b.rank < a.rank := by
  induction l with
  | nil => exact .nil
  | cons x l ih => exact presentInto_sorted x _ ih

/-- The entries that fit are the first ones, as far as the room goes: the next one is too long for what is left. -/
theorem fitting_spec (left : Nat) (l : List EventEntry) :
    ∃ rest, l = fitting left l ++ rest ∧ ((fitting left l).flatMap eventBytes).length ≤ left
      ∧ ∀ e ∈ rest.head?, left < ((fitting left l).flatMap eventBytes).length + (eventBytes e).length := by
  induction l generalizing left with
  | nil => exact ⟨[], by simp [fitting]⟩
  | cons x l ih =>
    by_cases h : (eventBytes x).length ≤ left
    · obtain ⟨rest, hl, hn, hr⟩ := ih (left - (eventBytes x).length)
      refine ⟨rest, ?_, ?_, ?_⟩
      · simp only [fitting, h, if_true, List.cons_append]
        rw [← hl]
      · simp only [fitting, h, if_true, List.flatMap_cons, List.length_append]
        omega
      · intro e he
        have := hr e he
        simp only [fitting, h, if_true, List.flatMap_cons, List.length_append]
        omega
    · refine ⟨x :: l, by simp [fitting, h], by simp [fitting, h], ?_⟩
      intro e he
      simp only [List.head?_cons, Option.mem_def, Option.some.injEq] at he
      subst he
      simp [fitting, h]
      omega

end Sys2Proof.Machine
end

