-- ==== Sys2Proof/Laws/State.lean ====
section
/-! SUPPORT. What each update of the state makes of each block, so that no proof unfolds a record update. -/

namespace Sys2Proof.Machine

/-! ## Each field of each update -/
@[simp] theorem State.after_now (s : State) (dt : Nat) :
    (s.after dt).now = s.now + dt := rfl
@[simp] theorem State.after_startedAt (s : State) (dt : Nat) :
    (s.after dt).startedAt = s.startedAt := rfl
@[simp] theorem State.after_lif (s : State) (dt : Nat) :
    (s.after dt).lif = s.lif := rfl
@[simp] theorem State.after_bdr (s : State) (dt : Nat) :
    (s.after dt).bdr = s.bdr := rfl
@[simp] theorem State.after_ptu (s : State) (dt : Nat) :
    (s.after dt).ptu = s.ptu := rfl
@[simp] theorem State.after_rgu (s : State) (dt : Nat) :
    (s.after dt).rgu = s.rgu := rfl
@[simp] theorem State.after_sau (s : State) (dt : Nat) :
    (s.after dt).sau = s.sau := rfl
@[simp] theorem State.after_lfc (s : State) (dt : Nat) :
    (s.after dt).lfc = s.lfc := rfl
@[simp] theorem State.after_lfu (s : State) (dt : Nat) :
    (s.after dt).lfu = s.lfu := rfl
@[simp] theorem State.after_acu (s : State) (dt : Nat) :
    (s.after dt).acu = s.acu := rfl
@[simp] theorem State.after_pbu (s : State) (dt : Nat) :
    (s.after dt).pbu = s.pbu := rfl
@[simp] theorem State.after_eva (s : State) (dt : Nat) :
    (s.after dt).eva = s.eva := rfl
@[simp] theorem State.after_cpt (s : State) (dt : Nat) :
    (s.after dt).cpt = s.cpt := rfl
@[simp] theorem State.after_ssu (s : State) (dt : Nat) :
    (s.after dt).ssu = s.ssu := rfl
@[simp] theorem State.after_pending (s : State) (dt : Nat) :
    (s.after dt).pending = s.pending := rfl

@[simp] theorem State.setQueue_now (s : State) (q : List TxEntry) :
    (s.setQueue q).now = s.now := rfl
@[simp] theorem State.setQueue_startedAt (s : State) (q : List TxEntry) :
    (s.setQueue q).startedAt = s.startedAt := rfl
@[simp] theorem State.setQueue_lif (s : State) (q : List TxEntry) :
    (s.setQueue q).lif = { s.lif with queue := q } := rfl
@[simp] theorem State.setQueue_bdr (s : State) (q : List TxEntry) :
    (s.setQueue q).bdr = s.bdr := rfl
@[simp] theorem State.setQueue_ptu (s : State) (q : List TxEntry) :
    (s.setQueue q).ptu = s.ptu := rfl
@[simp] theorem State.setQueue_rgu (s : State) (q : List TxEntry) :
    (s.setQueue q).rgu = s.rgu := rfl
@[simp] theorem State.setQueue_sau (s : State) (q : List TxEntry) :
    (s.setQueue q).sau = s.sau := rfl
@[simp] theorem State.setQueue_lfc (s : State) (q : List TxEntry) :
    (s.setQueue q).lfc = s.lfc := rfl
@[simp] theorem State.setQueue_lfu (s : State) (q : List TxEntry) :
    (s.setQueue q).lfu = s.lfu := rfl
@[simp] theorem State.setQueue_acu (s : State) (q : List TxEntry) :
    (s.setQueue q).acu = s.acu := rfl
@[simp] theorem State.setQueue_pbu (s : State) (q : List TxEntry) :
    (s.setQueue q).pbu = s.pbu := rfl
@[simp] theorem State.setQueue_eva (s : State) (q : List TxEntry) :
    (s.setQueue q).eva = s.eva := rfl
@[simp] theorem State.setQueue_cpt (s : State) (q : List TxEntry) :
    (s.setQueue q).cpt = s.cpt := rfl
@[simp] theorem State.setQueue_ssu (s : State) (q : List TxEntry) :
    (s.setQueue q).ssu = s.ssu := rfl
@[simp] theorem State.setQueue_pending (s : State) (q : List TxEntry) :
    (s.setQueue q).pending = s.pending := rfl

@[simp] theorem State.setRgu_now (s : State) (f : Rgu → Rgu) :
    (s.setRgu f).now = s.now := rfl
@[simp] theorem State.setRgu_startedAt (s : State) (f : Rgu → Rgu) :
    (s.setRgu f).startedAt = s.startedAt := rfl
@[simp] theorem State.setRgu_lif (s : State) (f : Rgu → Rgu) :
    (s.setRgu f).lif = s.lif := rfl
@[simp] theorem State.setRgu_bdr (s : State) (f : Rgu → Rgu) :
    (s.setRgu f).bdr = s.bdr := rfl
@[simp] theorem State.setRgu_ptu (s : State) (f : Rgu → Rgu) :
    (s.setRgu f).ptu = s.ptu := rfl
@[simp] theorem State.setRgu_rgu (s : State) (f : Rgu → Rgu) :
    (s.setRgu f).rgu = f s.rgu := rfl
@[simp] theorem State.setRgu_sau (s : State) (f : Rgu → Rgu) :
    (s.setRgu f).sau = s.sau := rfl
@[simp] theorem State.setRgu_lfc (s : State) (f : Rgu → Rgu) :
    (s.setRgu f).lfc = s.lfc := rfl
@[simp] theorem State.setRgu_lfu (s : State) (f : Rgu → Rgu) :
    (s.setRgu f).lfu = s.lfu := rfl
@[simp] theorem State.setRgu_acu (s : State) (f : Rgu → Rgu) :
    (s.setRgu f).acu = s.acu := rfl
@[simp] theorem State.setRgu_pbu (s : State) (f : Rgu → Rgu) :
    (s.setRgu f).pbu = s.pbu := rfl
@[simp] theorem State.setRgu_eva (s : State) (f : Rgu → Rgu) :
    (s.setRgu f).eva = s.eva := rfl
@[simp] theorem State.setRgu_cpt (s : State) (f : Rgu → Rgu) :
    (s.setRgu f).cpt = s.cpt := rfl
@[simp] theorem State.setRgu_ssu (s : State) (f : Rgu → Rgu) :
    (s.setRgu f).ssu = s.ssu := rfl
@[simp] theorem State.setRgu_pending (s : State) (f : Rgu → Rgu) :
    (s.setRgu f).pending = s.pending := rfl

@[simp] theorem State.setSau_now (s : State) (f : Sau → Sau) :
    (s.setSau f).now = s.now := rfl
@[simp] theorem State.setSau_startedAt (s : State) (f : Sau → Sau) :
    (s.setSau f).startedAt = s.startedAt := rfl
@[simp] theorem State.setSau_lif (s : State) (f : Sau → Sau) :
    (s.setSau f).lif = s.lif := rfl
@[simp] theorem State.setSau_bdr (s : State) (f : Sau → Sau) :
    (s.setSau f).bdr = s.bdr := rfl
@[simp] theorem State.setSau_ptu (s : State) (f : Sau → Sau) :
    (s.setSau f).ptu = s.ptu := rfl
@[simp] theorem State.setSau_rgu (s : State) (f : Sau → Sau) :
    (s.setSau f).rgu = s.rgu := rfl
@[simp] theorem State.setSau_sau (s : State) (f : Sau → Sau) :
    (s.setSau f).sau = f s.sau := rfl
@[simp] theorem State.setSau_lfc (s : State) (f : Sau → Sau) :
    (s.setSau f).lfc = s.lfc := rfl
@[simp] theorem State.setSau_lfu (s : State) (f : Sau → Sau) :
    (s.setSau f).lfu = s.lfu := rfl
@[simp] theorem State.setSau_acu (s : State) (f : Sau → Sau) :
    (s.setSau f).acu = s.acu := rfl
@[simp] theorem State.setSau_pbu (s : State) (f : Sau → Sau) :
    (s.setSau f).pbu = s.pbu := rfl
@[simp] theorem State.setSau_eva (s : State) (f : Sau → Sau) :
    (s.setSau f).eva = s.eva := rfl
@[simp] theorem State.setSau_cpt (s : State) (f : Sau → Sau) :
    (s.setSau f).cpt = s.cpt := rfl
@[simp] theorem State.setSau_ssu (s : State) (f : Sau → Sau) :
    (s.setSau f).ssu = s.ssu := rfl
@[simp] theorem State.setSau_pending (s : State) (f : Sau → Sau) :
    (s.setSau f).pending = s.pending := rfl

@[simp] theorem State.setPbu_now (s : State) (f : Pbu → Pbu) :
    (s.setPbu f).now = s.now := rfl
@[simp] theorem State.setPbu_startedAt (s : State) (f : Pbu → Pbu) :
    (s.setPbu f).startedAt = s.startedAt := rfl
@[simp] theorem State.setPbu_lif (s : State) (f : Pbu → Pbu) :
    (s.setPbu f).lif = s.lif := rfl
@[simp] theorem State.setPbu_bdr (s : State) (f : Pbu → Pbu) :
    (s.setPbu f).bdr = s.bdr := rfl
@[simp] theorem State.setPbu_ptu (s : State) (f : Pbu → Pbu) :
    (s.setPbu f).ptu = s.ptu := rfl
@[simp] theorem State.setPbu_rgu (s : State) (f : Pbu → Pbu) :
    (s.setPbu f).rgu = s.rgu := rfl
@[simp] theorem State.setPbu_sau (s : State) (f : Pbu → Pbu) :
    (s.setPbu f).sau = s.sau := rfl
@[simp] theorem State.setPbu_lfc (s : State) (f : Pbu → Pbu) :
    (s.setPbu f).lfc = s.lfc := rfl
@[simp] theorem State.setPbu_lfu (s : State) (f : Pbu → Pbu) :
    (s.setPbu f).lfu = s.lfu := rfl
@[simp] theorem State.setPbu_acu (s : State) (f : Pbu → Pbu) :
    (s.setPbu f).acu = s.acu := rfl
@[simp] theorem State.setPbu_pbu (s : State) (f : Pbu → Pbu) :
    (s.setPbu f).pbu = f s.pbu := rfl
@[simp] theorem State.setPbu_eva (s : State) (f : Pbu → Pbu) :
    (s.setPbu f).eva = s.eva := rfl
@[simp] theorem State.setPbu_cpt (s : State) (f : Pbu → Pbu) :
    (s.setPbu f).cpt = s.cpt := rfl
@[simp] theorem State.setPbu_ssu (s : State) (f : Pbu → Pbu) :
    (s.setPbu f).ssu = s.ssu := rfl
@[simp] theorem State.setPbu_pending (s : State) (f : Pbu → Pbu) :
    (s.setPbu f).pending = s.pending := rfl

@[simp] theorem State.setLif_now (s : State) (f : Lif → Lif) :
    (s.setLif f).now = s.now := rfl
@[simp] theorem State.setLif_startedAt (s : State) (f : Lif → Lif) :
    (s.setLif f).startedAt = s.startedAt := rfl
@[simp] theorem State.setLif_lif (s : State) (f : Lif → Lif) :
    (s.setLif f).lif = f s.lif := rfl
@[simp] theorem State.setLif_bdr (s : State) (f : Lif → Lif) :
    (s.setLif f).bdr = s.bdr := rfl
@[simp] theorem State.setLif_ptu (s : State) (f : Lif → Lif) :
    (s.setLif f).ptu = s.ptu := rfl
@[simp] theorem State.setLif_rgu (s : State) (f : Lif → Lif) :
    (s.setLif f).rgu = s.rgu := rfl
@[simp] theorem State.setLif_sau (s : State) (f : Lif → Lif) :
    (s.setLif f).sau = s.sau := rfl
@[simp] theorem State.setLif_lfc (s : State) (f : Lif → Lif) :
    (s.setLif f).lfc = s.lfc := rfl
@[simp] theorem State.setLif_lfu (s : State) (f : Lif → Lif) :
    (s.setLif f).lfu = s.lfu := rfl
@[simp] theorem State.setLif_acu (s : State) (f : Lif → Lif) :
    (s.setLif f).acu = s.acu := rfl
@[simp] theorem State.setLif_pbu (s : State) (f : Lif → Lif) :
    (s.setLif f).pbu = s.pbu := rfl
@[simp] theorem State.setLif_eva (s : State) (f : Lif → Lif) :
    (s.setLif f).eva = s.eva := rfl
@[simp] theorem State.setLif_cpt (s : State) (f : Lif → Lif) :
    (s.setLif f).cpt = s.cpt := rfl
@[simp] theorem State.setLif_ssu (s : State) (f : Lif → Lif) :
    (s.setLif f).ssu = s.ssu := rfl
@[simp] theorem State.setLif_pending (s : State) (f : Lif → Lif) :
    (s.setLif f).pending = s.pending := rfl

@[simp] theorem State.setBdr_now (s : State) (f : Bdr → Bdr) :
    (s.setBdr f).now = s.now := rfl
@[simp] theorem State.setBdr_startedAt (s : State) (f : Bdr → Bdr) :
    (s.setBdr f).startedAt = s.startedAt := rfl
@[simp] theorem State.setBdr_lif (s : State) (f : Bdr → Bdr) :
    (s.setBdr f).lif = s.lif := rfl
@[simp] theorem State.setBdr_bdr (s : State) (f : Bdr → Bdr) :
    (s.setBdr f).bdr = f s.bdr := rfl
@[simp] theorem State.setBdr_ptu (s : State) (f : Bdr → Bdr) :
    (s.setBdr f).ptu = s.ptu := rfl
@[simp] theorem State.setBdr_rgu (s : State) (f : Bdr → Bdr) :
    (s.setBdr f).rgu = s.rgu := rfl
@[simp] theorem State.setBdr_sau (s : State) (f : Bdr → Bdr) :
    (s.setBdr f).sau = s.sau := rfl
@[simp] theorem State.setBdr_lfc (s : State) (f : Bdr → Bdr) :
    (s.setBdr f).lfc = s.lfc := rfl
@[simp] theorem State.setBdr_lfu (s : State) (f : Bdr → Bdr) :
    (s.setBdr f).lfu = s.lfu := rfl
@[simp] theorem State.setBdr_acu (s : State) (f : Bdr → Bdr) :
    (s.setBdr f).acu = s.acu := rfl
@[simp] theorem State.setBdr_pbu (s : State) (f : Bdr → Bdr) :
    (s.setBdr f).pbu = s.pbu := rfl
@[simp] theorem State.setBdr_eva (s : State) (f : Bdr → Bdr) :
    (s.setBdr f).eva = s.eva := rfl
@[simp] theorem State.setBdr_cpt (s : State) (f : Bdr → Bdr) :
    (s.setBdr f).cpt = s.cpt := rfl
@[simp] theorem State.setBdr_ssu (s : State) (f : Bdr → Bdr) :
    (s.setBdr f).ssu = s.ssu := rfl
@[simp] theorem State.setBdr_pending (s : State) (f : Bdr → Bdr) :
    (s.setBdr f).pending = s.pending := rfl

@[simp] theorem State.setCpt_now (s : State) (f : Cpt → Cpt) :
    (s.setCpt f).now = s.now := rfl
@[simp] theorem State.setCpt_startedAt (s : State) (f : Cpt → Cpt) :
    (s.setCpt f).startedAt = s.startedAt := rfl
@[simp] theorem State.setCpt_lif (s : State) (f : Cpt → Cpt) :
    (s.setCpt f).lif = s.lif := rfl
@[simp] theorem State.setCpt_bdr (s : State) (f : Cpt → Cpt) :
    (s.setCpt f).bdr = s.bdr := rfl
@[simp] theorem State.setCpt_ptu (s : State) (f : Cpt → Cpt) :
    (s.setCpt f).ptu = s.ptu := rfl
@[simp] theorem State.setCpt_rgu (s : State) (f : Cpt → Cpt) :
    (s.setCpt f).rgu = s.rgu := rfl
@[simp] theorem State.setCpt_sau (s : State) (f : Cpt → Cpt) :
    (s.setCpt f).sau = s.sau := rfl
@[simp] theorem State.setCpt_lfc (s : State) (f : Cpt → Cpt) :
    (s.setCpt f).lfc = s.lfc := rfl
@[simp] theorem State.setCpt_lfu (s : State) (f : Cpt → Cpt) :
    (s.setCpt f).lfu = s.lfu := rfl
@[simp] theorem State.setCpt_acu (s : State) (f : Cpt → Cpt) :
    (s.setCpt f).acu = s.acu := rfl
@[simp] theorem State.setCpt_pbu (s : State) (f : Cpt → Cpt) :
    (s.setCpt f).pbu = s.pbu := rfl
@[simp] theorem State.setCpt_eva (s : State) (f : Cpt → Cpt) :
    (s.setCpt f).eva = s.eva := rfl
@[simp] theorem State.setCpt_cpt (s : State) (f : Cpt → Cpt) :
    (s.setCpt f).cpt = f s.cpt := rfl
@[simp] theorem State.setCpt_ssu (s : State) (f : Cpt → Cpt) :
    (s.setCpt f).ssu = s.ssu := rfl
@[simp] theorem State.setCpt_pending (s : State) (f : Cpt → Cpt) :
    (s.setCpt f).pending = s.pending := rfl

@[simp] theorem State.setSsu_now (s : State) (f : Ssu → Ssu) :
    (s.setSsu f).now = s.now := rfl
@[simp] theorem State.setSsu_startedAt (s : State) (f : Ssu → Ssu) :
    (s.setSsu f).startedAt = s.startedAt := rfl
@[simp] theorem State.setSsu_lif (s : State) (f : Ssu → Ssu) :
    (s.setSsu f).lif = s.lif := rfl
@[simp] theorem State.setSsu_bdr (s : State) (f : Ssu → Ssu) :
    (s.setSsu f).bdr = s.bdr := rfl
@[simp] theorem State.setSsu_ptu (s : State) (f : Ssu → Ssu) :
    (s.setSsu f).ptu = s.ptu := rfl
@[simp] theorem State.setSsu_rgu (s : State) (f : Ssu → Ssu) :
    (s.setSsu f).rgu = s.rgu := rfl
@[simp] theorem State.setSsu_sau (s : State) (f : Ssu → Ssu) :
    (s.setSsu f).sau = s.sau := rfl
@[simp] theorem State.setSsu_lfc (s : State) (f : Ssu → Ssu) :
    (s.setSsu f).lfc = s.lfc := rfl
@[simp] theorem State.setSsu_lfu (s : State) (f : Ssu → Ssu) :
    (s.setSsu f).lfu = s.lfu := rfl
@[simp] theorem State.setSsu_acu (s : State) (f : Ssu → Ssu) :
    (s.setSsu f).acu = s.acu := rfl
@[simp] theorem State.setSsu_pbu (s : State) (f : Ssu → Ssu) :
    (s.setSsu f).pbu = s.pbu := rfl
@[simp] theorem State.setSsu_eva (s : State) (f : Ssu → Ssu) :
    (s.setSsu f).eva = s.eva := rfl
@[simp] theorem State.setSsu_cpt (s : State) (f : Ssu → Ssu) :
    (s.setSsu f).cpt = s.cpt := rfl
@[simp] theorem State.setSsu_ssu (s : State) (f : Ssu → Ssu) :
    (s.setSsu f).ssu = f s.ssu := rfl
@[simp] theorem State.setSsu_pending (s : State) (f : Ssu → Ssu) :
    (s.setSsu f).pending = s.pending := rfl

@[simp] theorem State.setPoint_now (s : State) (p : Point) (f : PointRecord → PointRecord) :
    (s.setPoint p f).now = s.now := rfl
@[simp] theorem State.setPoint_startedAt (s : State) (p : Point) (f : PointRecord → PointRecord) :
    (s.setPoint p f).startedAt = s.startedAt := rfl
@[simp] theorem State.setPoint_lif (s : State) (p : Point) (f : PointRecord → PointRecord) :
    (s.setPoint p f).lif = s.lif := rfl
@[simp] theorem State.setPoint_bdr (s : State) (p : Point) (f : PointRecord → PointRecord) :
    (s.setPoint p f).bdr = s.bdr := rfl
@[simp] theorem State.setPoint_ptu (s : State) (p : Point) (f : PointRecord → PointRecord) :
    (s.setPoint p f).ptu = { s.ptu with points := upd s.ptu.points p f } := rfl
@[simp] theorem State.setPoint_rgu (s : State) (p : Point) (f : PointRecord → PointRecord) :
    (s.setPoint p f).rgu = s.rgu := rfl
@[simp] theorem State.setPoint_sau (s : State) (p : Point) (f : PointRecord → PointRecord) :
    (s.setPoint p f).sau = s.sau := rfl
@[simp] theorem State.setPoint_lfc (s : State) (p : Point) (f : PointRecord → PointRecord) :
    (s.setPoint p f).lfc = s.lfc := rfl
@[simp] theorem State.setPoint_lfu (s : State) (p : Point) (f : PointRecord → PointRecord) :
    (s.setPoint p f).lfu = s.lfu := rfl
@[simp] theorem State.setPoint_acu (s : State) (p : Point) (f : PointRecord → PointRecord) :
    (s.setPoint p f).acu = s.acu := rfl
@[simp] theorem State.setPoint_pbu (s : State) (p : Point) (f : PointRecord → PointRecord) :
    (s.setPoint p f).pbu = s.pbu := rfl
@[simp] theorem State.setPoint_eva (s : State) (p : Point) (f : PointRecord → PointRecord) :
    (s.setPoint p f).eva = s.eva := rfl
@[simp] theorem State.setPoint_cpt (s : State) (p : Point) (f : PointRecord → PointRecord) :
    (s.setPoint p f).cpt = s.cpt := rfl
@[simp] theorem State.setPoint_ssu (s : State) (p : Point) (f : PointRecord → PointRecord) :
    (s.setPoint p f).ssu = s.ssu := rfl
@[simp] theorem State.setPoint_pending (s : State) (p : Point) (f : PointRecord → PointRecord) :
    (s.setPoint p f).pending = s.pending := rfl

@[simp] theorem State.setDecoder_now (s : State) (p : Point) (f : Decoder → Decoder) :
    (s.setDecoder p f).now = s.now := rfl
@[simp] theorem State.setDecoder_startedAt (s : State) (p : Point) (f : Decoder → Decoder) :
    (s.setDecoder p f).startedAt = s.startedAt := rfl
@[simp] theorem State.setDecoder_lif (s : State) (p : Point) (f : Decoder → Decoder) :
    (s.setDecoder p f).lif = s.lif := rfl
@[simp] theorem State.setDecoder_bdr (s : State) (p : Point) (f : Decoder → Decoder) :
    (s.setDecoder p f).bdr = s.bdr := rfl
@[simp] theorem State.setDecoder_ptu (s : State) (p : Point) (f : Decoder → Decoder) :
    (s.setDecoder p f).ptu = { s.ptu with points := upd s.ptu.points p fun r => { r with decoder := f r.decoder } } := rfl
@[simp] theorem State.setDecoder_rgu (s : State) (p : Point) (f : Decoder → Decoder) :
    (s.setDecoder p f).rgu = s.rgu := rfl
@[simp] theorem State.setDecoder_sau (s : State) (p : Point) (f : Decoder → Decoder) :
    (s.setDecoder p f).sau = s.sau := rfl
@[simp] theorem State.setDecoder_lfc (s : State) (p : Point) (f : Decoder → Decoder) :
    (s.setDecoder p f).lfc = s.lfc := rfl
@[simp] theorem State.setDecoder_lfu (s : State) (p : Point) (f : Decoder → Decoder) :
    (s.setDecoder p f).lfu = s.lfu := rfl
@[simp] theorem State.setDecoder_acu (s : State) (p : Point) (f : Decoder → Decoder) :
    (s.setDecoder p f).acu = s.acu := rfl
@[simp] theorem State.setDecoder_pbu (s : State) (p : Point) (f : Decoder → Decoder) :
    (s.setDecoder p f).pbu = s.pbu := rfl
@[simp] theorem State.setDecoder_eva (s : State) (p : Point) (f : Decoder → Decoder) :
    (s.setDecoder p f).eva = s.eva := rfl
@[simp] theorem State.setDecoder_cpt (s : State) (p : Point) (f : Decoder → Decoder) :
    (s.setDecoder p f).cpt = s.cpt := rfl
@[simp] theorem State.setDecoder_ssu (s : State) (p : Point) (f : Decoder → Decoder) :
    (s.setDecoder p f).ssu = s.ssu := rfl
@[simp] theorem State.setDecoder_pending (s : State) (p : Point) (f : Decoder → Decoder) :
    (s.setDecoder p f).pending = s.pending := rfl

@[simp] theorem State.setPhase_now (s : State) (p : Phase) (m : ClaimMode) :
    (s.setPhase p m).now = s.now := rfl
@[simp] theorem State.setPhase_startedAt (s : State) (p : Phase) (m : ClaimMode) :
    (s.setPhase p m).startedAt = s.startedAt := rfl
@[simp] theorem State.setPhase_lif (s : State) (p : Phase) (m : ClaimMode) :
    (s.setPhase p m).lif = s.lif := rfl
@[simp] theorem State.setPhase_bdr (s : State) (p : Phase) (m : ClaimMode) :
    (s.setPhase p m).bdr = s.bdr := rfl
@[simp] theorem State.setPhase_ptu (s : State) (p : Phase) (m : ClaimMode) :
    (s.setPhase p m).ptu = s.ptu := rfl
@[simp] theorem State.setPhase_rgu (s : State) (p : Phase) (m : ClaimMode) :
    (s.setPhase p m).rgu = { s.rgu with phase := p, mode := m } := rfl
@[simp] theorem State.setPhase_sau (s : State) (p : Phase) (m : ClaimMode) :
    (s.setPhase p m).sau = s.sau := rfl
@[simp] theorem State.setPhase_lfc (s : State) (p : Phase) (m : ClaimMode) :
    (s.setPhase p m).lfc = s.lfc := rfl
@[simp] theorem State.setPhase_lfu (s : State) (p : Phase) (m : ClaimMode) :
    (s.setPhase p m).lfu = s.lfu := rfl
@[simp] theorem State.setPhase_acu (s : State) (p : Phase) (m : ClaimMode) :
    (s.setPhase p m).acu = s.acu := rfl
@[simp] theorem State.setPhase_pbu (s : State) (p : Phase) (m : ClaimMode) :
    (s.setPhase p m).pbu = s.pbu := rfl
@[simp] theorem State.setPhase_eva (s : State) (p : Phase) (m : ClaimMode) :
    (s.setPhase p m).eva = s.eva := rfl
@[simp] theorem State.setPhase_cpt (s : State) (p : Phase) (m : ClaimMode) :
    (s.setPhase p m).cpt = s.cpt := rfl
@[simp] theorem State.setPhase_ssu (s : State) (p : Phase) (m : ClaimMode) :
    (s.setPhase p m).ssu = s.ssu := rfl
@[simp] theorem State.setPhase_pending (s : State) (p : Phase) (m : ClaimMode) :
    (s.setPhase p m).pending = s.pending := rfl

@[simp] theorem State.setClaim_now (s : State) (c : ClaimState) :
    (s.setClaim c).now = s.now := rfl
@[simp] theorem State.setClaim_startedAt (s : State) (c : ClaimState) :
    (s.setClaim c).startedAt = s.startedAt := rfl
@[simp] theorem State.setClaim_lif (s : State) (c : ClaimState) :
    (s.setClaim c).lif = s.lif := rfl
@[simp] theorem State.setClaim_bdr (s : State) (c : ClaimState) :
    (s.setClaim c).bdr = s.bdr := rfl
@[simp] theorem State.setClaim_ptu (s : State) (c : ClaimState) :
    (s.setClaim c).ptu = s.ptu := rfl
@[simp] theorem State.setClaim_rgu (s : State) (c : ClaimState) :
    (s.setClaim c).rgu = s.rgu := rfl
@[simp] theorem State.setClaim_sau (s : State) (c : ClaimState) :
    (s.setClaim c).sau = { s.sau with claim := { s.sau.claim with state := c } } := rfl
@[simp] theorem State.setClaim_lfc (s : State) (c : ClaimState) :
    (s.setClaim c).lfc = s.lfc := rfl
@[simp] theorem State.setClaim_lfu (s : State) (c : ClaimState) :
    (s.setClaim c).lfu = s.lfu := rfl
@[simp] theorem State.setClaim_acu (s : State) (c : ClaimState) :
    (s.setClaim c).acu = s.acu := rfl
@[simp] theorem State.setClaim_pbu (s : State) (c : ClaimState) :
    (s.setClaim c).pbu = s.pbu := rfl
@[simp] theorem State.setClaim_eva (s : State) (c : ClaimState) :
    (s.setClaim c).eva = s.eva := rfl
@[simp] theorem State.setClaim_cpt (s : State) (c : ClaimState) :
    (s.setClaim c).cpt = s.cpt := rfl
@[simp] theorem State.setClaim_ssu (s : State) (c : ClaimState) :
    (s.setClaim c).ssu = s.ssu := rfl
@[simp] theorem State.setClaim_pending (s : State) (c : ClaimState) :
    (s.setClaim c).pending = s.pending := rfl

@[simp] theorem State.setSmokeOffer_now (s : State) (st : Stair) (v : Option Nat) :
    (s.setSmokeOffer st v).now = s.now := rfl
@[simp] theorem State.setSmokeOffer_startedAt (s : State) (st : Stair) (v : Option Nat) :
    (s.setSmokeOffer st v).startedAt = s.startedAt := rfl
@[simp] theorem State.setSmokeOffer_lif (s : State) (st : Stair) (v : Option Nat) :
    (s.setSmokeOffer st v).lif = s.lif := rfl
@[simp] theorem State.setSmokeOffer_bdr (s : State) (st : Stair) (v : Option Nat) :
    (s.setSmokeOffer st v).bdr = s.bdr := rfl
@[simp] theorem State.setSmokeOffer_ptu (s : State) (st : Stair) (v : Option Nat) :
    (s.setSmokeOffer st v).ptu = s.ptu := rfl
@[simp] theorem State.setSmokeOffer_rgu (s : State) (st : Stair) (v : Option Nat) :
    (s.setSmokeOffer st v).rgu = s.rgu := rfl
@[simp] theorem State.setSmokeOffer_sau (s : State) (st : Stair) (v : Option Nat) :
    (s.setSmokeOffer st v).sau = { s.sau with smokeOffer := s.sau.smokeOffer.set st v } := rfl
@[simp] theorem State.setSmokeOffer_lfc (s : State) (st : Stair) (v : Option Nat) :
    (s.setSmokeOffer st v).lfc = s.lfc := rfl
@[simp] theorem State.setSmokeOffer_lfu (s : State) (st : Stair) (v : Option Nat) :
    (s.setSmokeOffer st v).lfu = s.lfu := rfl
@[simp] theorem State.setSmokeOffer_acu (s : State) (st : Stair) (v : Option Nat) :
    (s.setSmokeOffer st v).acu = s.acu := rfl
@[simp] theorem State.setSmokeOffer_pbu (s : State) (st : Stair) (v : Option Nat) :
    (s.setSmokeOffer st v).pbu = s.pbu := rfl
@[simp] theorem State.setSmokeOffer_eva (s : State) (st : Stair) (v : Option Nat) :
    (s.setSmokeOffer st v).eva = s.eva := rfl
@[simp] theorem State.setSmokeOffer_cpt (s : State) (st : Stair) (v : Option Nat) :
    (s.setSmokeOffer st v).cpt = s.cpt := rfl
@[simp] theorem State.setSmokeOffer_ssu (s : State) (st : Stair) (v : Option Nat) :
    (s.setSmokeOffer st v).ssu = s.ssu := rfl
@[simp] theorem State.setSmokeOffer_pending (s : State) (st : Stair) (v : Option Nat) :
    (s.setSmokeOffer st v).pending = s.pending := rfl

@[simp] theorem State.setLeaf_now (s : State) (st : Stair) (l : LeafRecord) :
    (s.setLeaf st l).now = s.now := rfl
@[simp] theorem State.setLeaf_startedAt (s : State) (st : Stair) (l : LeafRecord) :
    (s.setLeaf st l).startedAt = s.startedAt := rfl
@[simp] theorem State.setLeaf_lif (s : State) (st : Stair) (l : LeafRecord) :
    (s.setLeaf st l).lif = s.lif := rfl
@[simp] theorem State.setLeaf_bdr (s : State) (st : Stair) (l : LeafRecord) :
    (s.setLeaf st l).bdr = s.bdr := rfl
@[simp] theorem State.setLeaf_ptu (s : State) (st : Stair) (l : LeafRecord) :
    (s.setLeaf st l).ptu = s.ptu := rfl
@[simp] theorem State.setLeaf_rgu (s : State) (st : Stair) (l : LeafRecord) :
    (s.setLeaf st l).rgu = s.rgu := rfl
@[simp] theorem State.setLeaf_sau (s : State) (st : Stair) (l : LeafRecord) :
    (s.setLeaf st l).sau = s.sau := rfl
@[simp] theorem State.setLeaf_lfc (s : State) (st : Stair) (l : LeafRecord) :
    (s.setLeaf st l).lfc = { s.lfc with leaves := s.lfc.leaves.set st (some l) } := rfl
@[simp] theorem State.setLeaf_lfu (s : State) (st : Stair) (l : LeafRecord) :
    (s.setLeaf st l).lfu = s.lfu := rfl
@[simp] theorem State.setLeaf_acu (s : State) (st : Stair) (l : LeafRecord) :
    (s.setLeaf st l).acu = s.acu := rfl
@[simp] theorem State.setLeaf_pbu (s : State) (st : Stair) (l : LeafRecord) :
    (s.setLeaf st l).pbu = s.pbu := rfl
@[simp] theorem State.setLeaf_eva (s : State) (st : Stair) (l : LeafRecord) :
    (s.setLeaf st l).eva = s.eva := rfl
@[simp] theorem State.setLeaf_cpt (s : State) (st : Stair) (l : LeafRecord) :
    (s.setLeaf st l).cpt = s.cpt := rfl
@[simp] theorem State.setLeaf_ssu (s : State) (st : Stair) (l : LeafRecord) :
    (s.setLeaf st l).ssu = s.ssu := rfl
@[simp] theorem State.setLeaf_pending (s : State) (st : Stair) (l : LeafRecord) :
    (s.setLeaf st l).pending = s.pending := rfl

@[simp] theorem State.setBank_now (s : State) (b : Bank) (f : BankRecord → BankRecord) :
    (s.setBank b f).now = s.now := rfl
@[simp] theorem State.setBank_startedAt (s : State) (b : Bank) (f : BankRecord → BankRecord) :
    (s.setBank b f).startedAt = s.startedAt := rfl
@[simp] theorem State.setBank_lif (s : State) (b : Bank) (f : BankRecord → BankRecord) :
    (s.setBank b f).lif = s.lif := rfl
@[simp] theorem State.setBank_bdr (s : State) (b : Bank) (f : BankRecord → BankRecord) :
    (s.setBank b f).bdr = s.bdr := rfl
@[simp] theorem State.setBank_ptu (s : State) (b : Bank) (f : BankRecord → BankRecord) :
    (s.setBank b f).ptu = s.ptu := rfl
@[simp] theorem State.setBank_rgu (s : State) (b : Bank) (f : BankRecord → BankRecord) :
    (s.setBank b f).rgu = s.rgu := rfl
@[simp] theorem State.setBank_sau (s : State) (b : Bank) (f : BankRecord → BankRecord) :
    (s.setBank b f).sau = s.sau := rfl
@[simp] theorem State.setBank_lfc (s : State) (b : Bank) (f : BankRecord → BankRecord) :
    (s.setBank b f).lfc = s.lfc := rfl
@[simp] theorem State.setBank_lfu (s : State) (b : Bank) (f : BankRecord → BankRecord) :
    (s.setBank b f).lfu = { s.lfu with banks := upd s.lfu.banks b (Option.map f) } := rfl
@[simp] theorem State.setBank_acu (s : State) (b : Bank) (f : BankRecord → BankRecord) :
    (s.setBank b f).acu = s.acu := rfl
@[simp] theorem State.setBank_pbu (s : State) (b : Bank) (f : BankRecord → BankRecord) :
    (s.setBank b f).pbu = s.pbu := rfl
@[simp] theorem State.setBank_eva (s : State) (b : Bank) (f : BankRecord → BankRecord) :
    (s.setBank b f).eva = s.eva := rfl
@[simp] theorem State.setBank_cpt (s : State) (b : Bank) (f : BankRecord → BankRecord) :
    (s.setBank b f).cpt = s.cpt := rfl
@[simp] theorem State.setBank_ssu (s : State) (b : Bank) (f : BankRecord → BankRecord) :
    (s.setBank b f).ssu = s.ssu := rfl
@[simp] theorem State.setBank_pending (s : State) (b : Bank) (f : BankRecord → BankRecord) :
    (s.setBank b f).pending = s.pending := rfl

@[simp] theorem State.setCar_now (s : State) (b : Bank) (c : Car) (f : CarRecord → CarRecord) :
    (s.setCar b c f).now = s.now := rfl
@[simp] theorem State.setCar_startedAt (s : State) (b : Bank) (c : Car) (f : CarRecord → CarRecord) :
    (s.setCar b c f).startedAt = s.startedAt := rfl
@[simp] theorem State.setCar_lif (s : State) (b : Bank) (c : Car) (f : CarRecord → CarRecord) :
    (s.setCar b c f).lif = s.lif := rfl
@[simp] theorem State.setCar_bdr (s : State) (b : Bank) (c : Car) (f : CarRecord → CarRecord) :
    (s.setCar b c f).bdr = s.bdr := rfl
@[simp] theorem State.setCar_ptu (s : State) (b : Bank) (c : Car) (f : CarRecord → CarRecord) :
    (s.setCar b c f).ptu = s.ptu := rfl
@[simp] theorem State.setCar_rgu (s : State) (b : Bank) (c : Car) (f : CarRecord → CarRecord) :
    (s.setCar b c f).rgu = s.rgu := rfl
@[simp] theorem State.setCar_sau (s : State) (b : Bank) (c : Car) (f : CarRecord → CarRecord) :
    (s.setCar b c f).sau = s.sau := rfl
@[simp] theorem State.setCar_lfc (s : State) (b : Bank) (c : Car) (f : CarRecord → CarRecord) :
    (s.setCar b c f).lfc = s.lfc := rfl
@[simp] theorem State.setCar_lfu (s : State) (b : Bank) (c : Car) (f : CarRecord → CarRecord) :
    (s.setCar b c f).lfu = { s.lfu with banks := upd s.lfu.banks b (Option.map fun r => { r with cars := upd r.cars c f }) } := rfl
@[simp] theorem State.setCar_acu (s : State) (b : Bank) (c : Car) (f : CarRecord → CarRecord) :
    (s.setCar b c f).acu = s.acu := rfl
@[simp] theorem State.setCar_pbu (s : State) (b : Bank) (c : Car) (f : CarRecord → CarRecord) :
    (s.setCar b c f).pbu = s.pbu := rfl
@[simp] theorem State.setCar_eva (s : State) (b : Bank) (c : Car) (f : CarRecord → CarRecord) :
    (s.setCar b c f).eva = s.eva := rfl
@[simp] theorem State.setCar_cpt (s : State) (b : Bank) (c : Car) (f : CarRecord → CarRecord) :
    (s.setCar b c f).cpt = s.cpt := rfl
@[simp] theorem State.setCar_ssu (s : State) (b : Bank) (c : Car) (f : CarRecord → CarRecord) :
    (s.setCar b c f).ssu = s.ssu := rfl
@[simp] theorem State.setCar_pending (s : State) (b : Bank) (c : Car) (f : CarRecord → CarRecord) :
    (s.setCar b c f).pending = s.pending := rfl

@[simp] theorem State.setRecord_now (s : State) (n : Sender) (r : Option RosterRecord) :
    (s.setRecord n r).now = s.now := rfl
@[simp] theorem State.setRecord_startedAt (s : State) (n : Sender) (r : Option RosterRecord) :
    (s.setRecord n r).startedAt = s.startedAt := rfl
@[simp] theorem State.setRecord_lif (s : State) (n : Sender) (r : Option RosterRecord) :
    (s.setRecord n r).lif = s.lif := rfl
@[simp] theorem State.setRecord_bdr (s : State) (n : Sender) (r : Option RosterRecord) :
    (s.setRecord n r).bdr = { s.bdr with roster := s.bdr.roster.set n r } := rfl
@[simp] theorem State.setRecord_ptu (s : State) (n : Sender) (r : Option RosterRecord) :
    (s.setRecord n r).ptu = s.ptu := rfl
@[simp] theorem State.setRecord_rgu (s : State) (n : Sender) (r : Option RosterRecord) :
    (s.setRecord n r).rgu = s.rgu := rfl
@[simp] theorem State.setRecord_sau (s : State) (n : Sender) (r : Option RosterRecord) :
    (s.setRecord n r).sau = s.sau := rfl
@[simp] theorem State.setRecord_lfc (s : State) (n : Sender) (r : Option RosterRecord) :
    (s.setRecord n r).lfc = s.lfc := rfl
@[simp] theorem State.setRecord_lfu (s : State) (n : Sender) (r : Option RosterRecord) :
    (s.setRecord n r).lfu = s.lfu := rfl
@[simp] theorem State.setRecord_acu (s : State) (n : Sender) (r : Option RosterRecord) :
    (s.setRecord n r).acu = s.acu := rfl
@[simp] theorem State.setRecord_pbu (s : State) (n : Sender) (r : Option RosterRecord) :
    (s.setRecord n r).pbu = s.pbu := rfl
@[simp] theorem State.setRecord_eva (s : State) (n : Sender) (r : Option RosterRecord) :
    (s.setRecord n r).eva = s.eva := rfl
@[simp] theorem State.setRecord_cpt (s : State) (n : Sender) (r : Option RosterRecord) :
    (s.setRecord n r).cpt = s.cpt := rfl
@[simp] theorem State.setRecord_ssu (s : State) (n : Sender) (r : Option RosterRecord) :
    (s.setRecord n r).ssu = s.ssu := rfl
@[simp] theorem State.setRecord_pending (s : State) (n : Sender) (r : Option RosterRecord) :
    (s.setRecord n r).pending = s.pending := rfl

/-! ## What the clock and the start sequence read -/

@[simp] theorem State.after_live (s : State) (dt : Nat) : (s.after dt).live = s.live := rfl
@[simp] theorem State.after_entered (s : State) (dt : Nat) : (s.after dt).entered = s.entered := rfl
@[simp] theorem State.after_statusReport (s : State) (dt : Nat) : (s.after dt).statusReport = s.statusReport := rfl
@[simp] theorem State.after_lift (s : State) (dt : Nat) (b : Bank) : (s.after dt).lift? b = s.lift? b := rfl

/-! ## Tables -/

@[simp] theorem upd_self {α : Type} {n : Nat} (v : Vector α n) (i : Fin n) (f : α → α) : (upd v i f)[i] = f v[i] := by
  simp [upd]

theorem upd_other {α : Type} {n : Nat} (v : Vector α n) (i j : Fin n) (f : α → α) (h : i ≠ j) :
    (upd v i f)[j] = v[j] := by
  have : i.val ≠ j.val := fun e => h (Fin.ext e)
  simp [upd, this]

@[simp] theorem each_get {α β : Type} {n : Nat} (v : Vector α n) (f : Fin n → α → β) (i : Fin n) :
    (each v f)[i] = f i v[i] := by
  simp [each]

end Sys2Proof.Machine
end

