-- ==== Sys2Proof/Laws/Frames.lean ====
section
/-! SUPPORT. Frames: the blocks, and the fields of the blocks it does touch, that each operation leaves as they were. -/

namespace Sys2Proof.Machine

/-- What every step of a fold keeps, the fold keeps. -/
theorem foldl_keeps {α β : Type} (g : State → β) (f : State → α → State) (h : ∀ s a, g (f s a) = g s) (l : List α)
    (s : State) : g (l.foldl f s) = g s := by
  induction l generalizing s with
  | nil => rfl
  | cons a l ih => simp [ih, h]

/-! ## Conditions touch the event list alone (R183 to R185) -/

@[simp] theorem State.annunciate_frame (s : State) :
    (s.annunciate).now = s.now ∧ (s.annunciate).startedAt = s.startedAt ∧ (s.annunciate).lif = s.lif
      ∧ (s.annunciate).bdr = s.bdr ∧ (s.annunciate).ptu = s.ptu ∧ (s.annunciate).rgu = s.rgu
      ∧ (s.annunciate).sau = s.sau ∧ (s.annunciate).lfc = s.lfc ∧ (s.annunciate).lfu = s.lfu
      ∧ (s.annunciate).acu = s.acu ∧ (s.annunciate).pbu = s.pbu ∧ (s.annunciate).cpt = s.cpt
      ∧ (s.annunciate).ssu = s.ssu ∧ (s.annunciate).pending = s.pending := by
  unfold State.annunciate
  try dsimp only
  (repeat' split) <;> simp

@[simp] theorem State.setEntries_frame (l : List EventEntry) (s : State) :
    (s.setEntries l).now = s.now ∧ (s.setEntries l).startedAt = s.startedAt ∧ (s.setEntries l).lif = s.lif
      ∧ (s.setEntries l).bdr = s.bdr ∧ (s.setEntries l).ptu = s.ptu ∧ (s.setEntries l).rgu = s.rgu
      ∧ (s.setEntries l).sau = s.sau ∧ (s.setEntries l).lfc = s.lfc ∧ (s.setEntries l).lfu = s.lfu
      ∧ (s.setEntries l).acu = s.acu ∧ (s.setEntries l).pbu = s.pbu ∧ (s.setEntries l).cpt = s.cpt
      ∧ (s.setEntries l).ssu = s.ssu ∧ (s.setEntries l).pending = s.pending := by
  unfold State.setEntries
  try dsimp only
  (repeat' split) <;> simp

@[simp] theorem raise_frame (src : Source) (c : Condition) (s : State) :
    (raise src c s).now = s.now ∧ (raise src c s).startedAt = s.startedAt ∧ (raise src c s).lif = s.lif
      ∧ (raise src c s).bdr = s.bdr ∧ (raise src c s).ptu = s.ptu ∧ (raise src c s).rgu = s.rgu
      ∧ (raise src c s).sau = s.sau ∧ (raise src c s).lfc = s.lfc ∧ (raise src c s).lfu = s.lfu
      ∧ (raise src c s).acu = s.acu ∧ (raise src c s).pbu = s.pbu ∧ (raise src c s).cpt = s.cpt
      ∧ (raise src c s).ssu = s.ssu ∧ (raise src c s).pending = s.pending := by
  unfold raise
  try dsimp only
  (repeat' split) <;> simp

@[simp] theorem clear_frame (src : Source) (c : Condition) (s : State) :
    (clear src c s).now = s.now ∧ (clear src c s).startedAt = s.startedAt ∧ (clear src c s).lif = s.lif
      ∧ (clear src c s).bdr = s.bdr ∧ (clear src c s).ptu = s.ptu ∧ (clear src c s).rgu = s.rgu
      ∧ (clear src c s).sau = s.sau ∧ (clear src c s).lfc = s.lfc ∧ (clear src c s).lfu = s.lfu
      ∧ (clear src c s).acu = s.acu ∧ (clear src c s).pbu = s.pbu ∧ (clear src c s).cpt = s.cpt
      ∧ (clear src c s).ssu = s.ssu ∧ (clear src c s).pending = s.pending := by
  unfold clear
  try dsimp only
  (repeat' split) <;> simp

@[simp] theorem keep_frame (on : Bool) (src : Source) (c : Condition) (s : State) :
    (keep on src c s).now = s.now ∧ (keep on src c s).startedAt = s.startedAt ∧ (keep on src c s).lif = s.lif
      ∧ (keep on src c s).bdr = s.bdr ∧ (keep on src c s).ptu = s.ptu ∧ (keep on src c s).rgu = s.rgu
      ∧ (keep on src c s).sau = s.sau ∧ (keep on src c s).lfc = s.lfc ∧ (keep on src c s).lfu = s.lfu
      ∧ (keep on src c s).acu = s.acu ∧ (keep on src c s).pbu = s.pbu ∧ (keep on src c s).cpt = s.cpt
      ∧ (keep on src c s).ssu = s.ssu ∧ (keep on src c s).pending = s.pending := by
  unfold keep
  try dsimp only
  (repeat' split) <;> simp

@[simp] theorem raiseAndClear_frame (src : Source) (c : Condition) (s : State) :
    (raiseAndClear src c s).now = s.now ∧ (raiseAndClear src c s).startedAt = s.startedAt
      ∧ (raiseAndClear src c s).lif = s.lif ∧ (raiseAndClear src c s).bdr = s.bdr
      ∧ (raiseAndClear src c s).ptu = s.ptu ∧ (raiseAndClear src c s).rgu = s.rgu
      ∧ (raiseAndClear src c s).sau = s.sau ∧ (raiseAndClear src c s).lfc = s.lfc
      ∧ (raiseAndClear src c s).lfu = s.lfu ∧ (raiseAndClear src c s).acu = s.acu
      ∧ (raiseAndClear src c s).pbu = s.pbu ∧ (raiseAndClear src c s).cpt = s.cpt
      ∧ (raiseAndClear src c s).ssu = s.ssu ∧ (raiseAndClear src c s).pending = s.pending := by
  simp [raiseAndClear]

@[simp] theorem clearEach_frame {α : Type} (skip : α → Bool) (src : α → Source) (c : Condition) (l : List α) (s : State) :
    (l.foldl (fun s a => if skip a then s else clear (src a) c s) s).now = s.now
      ∧ (l.foldl (fun s a => if skip a then s else clear (src a) c s) s).startedAt = s.startedAt
      ∧ (l.foldl (fun s a => if skip a then s else clear (src a) c s) s).lif = s.lif
      ∧ (l.foldl (fun s a => if skip a then s else clear (src a) c s) s).bdr = s.bdr
      ∧ (l.foldl (fun s a => if skip a then s else clear (src a) c s) s).ptu = s.ptu
      ∧ (l.foldl (fun s a => if skip a then s else clear (src a) c s) s).rgu = s.rgu
      ∧ (l.foldl (fun s a => if skip a then s else clear (src a) c s) s).sau = s.sau
      ∧ (l.foldl (fun s a => if skip a then s else clear (src a) c s) s).lfc = s.lfc
      ∧ (l.foldl (fun s a => if skip a then s else clear (src a) c s) s).lfu = s.lfu
      ∧ (l.foldl (fun s a => if skip a then s else clear (src a) c s) s).acu = s.acu
      ∧ (l.foldl (fun s a => if skip a then s else clear (src a) c s) s).pbu = s.pbu
      ∧ (l.foldl (fun s a => if skip a then s else clear (src a) c s) s).cpt = s.cpt
      ∧ (l.foldl (fun s a => if skip a then s else clear (src a) c s) s).ssu = s.ssu
      ∧ (l.foldl (fun s a => if skip a then s else clear (src a) c s) s).pending = s.pending := by
  induction l generalizing s with
  | nil => simp
  | cons a l ih => simp only [List.foldl_cons, ih]; split <;> simp

@[simp] theorem clearAll_frame {α : Type} (src : α → Source) (c : Condition) (l : List α) (s : State) :
    (l.foldl (fun s a => clear (src a) c s) s).now = s.now
      ∧ (l.foldl (fun s a => clear (src a) c s) s).startedAt = s.startedAt
      ∧ (l.foldl (fun s a => clear (src a) c s) s).lif = s.lif
      ∧ (l.foldl (fun s a => clear (src a) c s) s).bdr = s.bdr
      ∧ (l.foldl (fun s a => clear (src a) c s) s).ptu = s.ptu
      ∧ (l.foldl (fun s a => clear (src a) c s) s).rgu = s.rgu
      ∧ (l.foldl (fun s a => clear (src a) c s) s).sau = s.sau
      ∧ (l.foldl (fun s a => clear (src a) c s) s).lfc = s.lfc
      ∧ (l.foldl (fun s a => clear (src a) c s) s).lfu = s.lfu
      ∧ (l.foldl (fun s a => clear (src a) c s) s).acu = s.acu
      ∧ (l.foldl (fun s a => clear (src a) c s) s).pbu = s.pbu
      ∧ (l.foldl (fun s a => clear (src a) c s) s).cpt = s.cpt
      ∧ (l.foldl (fun s a => clear (src a) c s) s).ssu = s.ssu
      ∧ (l.foldl (fun s a => clear (src a) c s) s).pending = s.pending := by
  induction l generalizing s with
  | nil => simp
  | cons a l ih => simp [ih]

/-! ## Offers and withdrawals touch the transmit queue alone (R13, R15) -/

@[simp] theorem offer_frame (c : Content) (s : State) :
    ((offer c s).1).now = s.now ∧ ((offer c s).1).startedAt = s.startedAt ∧ ((offer c s).1).bdr = s.bdr
      ∧ ((offer c s).1).ptu = s.ptu ∧ ((offer c s).1).rgu = s.rgu ∧ ((offer c s).1).sau = s.sau
      ∧ ((offer c s).1).lfc = s.lfc ∧ ((offer c s).1).lfu = s.lfu ∧ ((offer c s).1).acu = s.acu
      ∧ ((offer c s).1).pbu = s.pbu ∧ ((offer c s).1).eva = s.eva ∧ ((offer c s).1).cpt = s.cpt
      ∧ ((offer c s).1).ssu = s.ssu ∧ ((offer c s).1).pending = s.pending ∧ ((offer c s).1).lif.rx = s.lif.rx
      ∧ ((offer c s).1).lif.lineIdle = s.lif.lineIdle ∧ ((offer c s).1).lif.tx = s.lif.tx
      ∧ ((offer c s).1).lif.held = s.lif.held ∧ ((offer c s).1).lif.txFault = s.lif.txFault
      ∧ ((offer c s).1).lif.attemptOpen = s.lif.attemptOpen ∧ ((offer c s).1).lif.failures = s.lif.failures
      ∧ ((offer c s).1).lif.testSequence = s.lif.testSequence
      ∧ ((offer c s).1).lif.duplicateSeen = s.lif.duplicateSeen ∧ ((offer c s).1).lif.holdFrom = s.lif.holdFrom
      ∧ ((offer c s).1).lif.txFrom = s.lif.txFrom ∧ ((offer c s).1).lif.breakFrom = s.lif.breakFrom := by
  unfold offer
  try dsimp only
  (repeat' split) <;> simp

@[simp] theorem withdraw_frame (slot : Slot) (s : State) :
    ((withdraw slot s).1).now = s.now ∧ ((withdraw slot s).1).startedAt = s.startedAt
      ∧ ((withdraw slot s).1).bdr = s.bdr ∧ ((withdraw slot s).1).ptu = s.ptu ∧ ((withdraw slot s).1).rgu = s.rgu
      ∧ ((withdraw slot s).1).sau = s.sau ∧ ((withdraw slot s).1).lfc = s.lfc ∧ ((withdraw slot s).1).lfu = s.lfu
      ∧ ((withdraw slot s).1).acu = s.acu ∧ ((withdraw slot s).1).pbu = s.pbu ∧ ((withdraw slot s).1).eva = s.eva
      ∧ ((withdraw slot s).1).cpt = s.cpt ∧ ((withdraw slot s).1).ssu = s.ssu
      ∧ ((withdraw slot s).1).pending = s.pending ∧ ((withdraw slot s).1).lif.rx = s.lif.rx
      ∧ ((withdraw slot s).1).lif.lineIdle = s.lif.lineIdle ∧ ((withdraw slot s).1).lif.tx = s.lif.tx
      ∧ ((withdraw slot s).1).lif.held = s.lif.held ∧ ((withdraw slot s).1).lif.txFault = s.lif.txFault
      ∧ ((withdraw slot s).1).lif.attemptOpen = s.lif.attemptOpen
      ∧ ((withdraw slot s).1).lif.failures = s.lif.failures
      ∧ ((withdraw slot s).1).lif.testSequence = s.lif.testSequence
      ∧ ((withdraw slot s).1).lif.duplicateSeen = s.lif.duplicateSeen
      ∧ ((withdraw slot s).1).lif.holdFrom = s.lif.holdFrom ∧ ((withdraw slot s).1).lif.txFrom = s.lif.txFrom
      ∧ ((withdraw slot s).1).lif.breakFrom = s.lif.breakFrom := by
  unfold withdraw
  try dsimp only
  (repeat' split) <;> simp

@[simp] theorem answerNow_frame (a : Answer) (data : List Byte) (s : State) :
    (answerNow a data s).now = s.now ∧ (answerNow a data s).startedAt = s.startedAt ∧ (answerNow a data s).lif = s.lif
      ∧ (answerNow a data s).bdr = s.bdr ∧ (answerNow a data s).ptu = s.ptu ∧ (answerNow a data s).rgu = s.rgu
      ∧ (answerNow a data s).sau = s.sau ∧ (answerNow a data s).lfc = s.lfc ∧ (answerNow a data s).lfu = s.lfu
      ∧ (answerNow a data s).acu = s.acu ∧ (answerNow a data s).pbu = s.pbu ∧ (answerNow a data s).eva = s.eva
      ∧ (answerNow a data s).ssu = s.ssu ∧ (answerNow a data s).pending = s.pending
      ∧ (answerNow a data s).cpt.rx = s.cpt.rx ∧ (answerNow a data s).cpt.key2 = s.cpt.key2
      ∧ (answerNow a data s).cpt.key3 = s.cpt.key3 ∧ (answerNow a data s).cpt.jumper4 = s.cpt.jumper4
      ∧ (answerNow a data s).cpt.delegation = s.cpt.delegation ∧ (answerNow a data s).cpt.dropped = s.cpt.dropped
      ∧ (answerNow a data s).cpt.commands = s.cpt.commands ∧ (answerNow a data s).cpt.errors = s.cpt.errors := by
  unfold answerNow
  try dsimp only
  (repeat' split) <;> simp

/-! ## The Leaf Controller (chapter 6) -/

@[simp] theorem changeLeaf_frame (st : Stair) (f : LeafRecord → LeafRecord) (s : State) :
    (changeLeaf st f s).now = s.now ∧ (changeLeaf st f s).startedAt = s.startedAt ∧ (changeLeaf st f s).lif = s.lif
      ∧ (changeLeaf st f s).bdr = s.bdr ∧ (changeLeaf st f s).ptu = s.ptu ∧ (changeLeaf st f s).rgu = s.rgu
      ∧ (changeLeaf st f s).sau = s.sau ∧ (changeLeaf st f s).lfu = s.lfu ∧ (changeLeaf st f s).acu = s.acu
      ∧ (changeLeaf st f s).pbu = s.pbu ∧ (changeLeaf st f s).cpt = s.cpt ∧ (changeLeaf st f s).ssu = s.ssu
      ∧ (changeLeaf st f s).pending = s.pending ∧ (changeLeaf st f s).lfc.unlockAll = s.lfc.unlockAll := by
  unfold changeLeaf
  try dsimp only
  (repeat' split) <;> simp

@[simp] theorem computeLeaves_frame (s : State) :
    (computeLeaves s).now = s.now ∧ (computeLeaves s).startedAt = s.startedAt ∧ (computeLeaves s).lif = s.lif
      ∧ (computeLeaves s).bdr = s.bdr ∧ (computeLeaves s).ptu = s.ptu ∧ (computeLeaves s).rgu = s.rgu
      ∧ (computeLeaves s).sau = s.sau ∧ (computeLeaves s).lfu = s.lfu ∧ (computeLeaves s).acu = s.acu
      ∧ (computeLeaves s).pbu = s.pbu ∧ (computeLeaves s).cpt = s.cpt ∧ (computeLeaves s).ssu = s.ssu
      ∧ (computeLeaves s).pending = s.pending ∧ (computeLeaves s).lfc.unlockAll = s.lfc.unlockAll := by
  unfold computeLeaves
  try dsimp only
  generalize List.finRange _ = l
  induction l generalizing s with
  | nil => simp
  | cons a l ih =>
    simp only [List.foldl_cons]
    simp [ih]

@[simp] theorem setSecurity_frame (st : Stair) (v : Security) (s : State) :
    (setSecurity st v s).now = s.now ∧ (setSecurity st v s).startedAt = s.startedAt ∧ (setSecurity st v s).lif = s.lif
      ∧ (setSecurity st v s).bdr = s.bdr ∧ (setSecurity st v s).ptu = s.ptu ∧ (setSecurity st v s).rgu = s.rgu
      ∧ (setSecurity st v s).sau = s.sau ∧ (setSecurity st v s).lfu = s.lfu ∧ (setSecurity st v s).acu = s.acu
      ∧ (setSecurity st v s).pbu = s.pbu ∧ (setSecurity st v s).cpt = s.cpt ∧ (setSecurity st v s).ssu = s.ssu
      ∧ (setSecurity st v s).pending = s.pending ∧ (setSecurity st v s).lfc.unlockAll = s.lfc.unlockAll := by
  unfold setSecurity
  try dsimp only
  (repeat' split) <;> simp

@[simp] theorem examineSecurity_frame (s : State) :
    (examineSecurity s).now = s.now ∧ (examineSecurity s).startedAt = s.startedAt ∧ (examineSecurity s).lif = s.lif
      ∧ (examineSecurity s).bdr = s.bdr ∧ (examineSecurity s).ptu = s.ptu ∧ (examineSecurity s).rgu = s.rgu
      ∧ (examineSecurity s).sau = s.sau ∧ (examineSecurity s).lfu = s.lfu ∧ (examineSecurity s).acu = s.acu
      ∧ (examineSecurity s).pbu = s.pbu ∧ (examineSecurity s).cpt = s.cpt ∧ (examineSecurity s).ssu = s.ssu
      ∧ (examineSecurity s).pending = s.pending ∧ (examineSecurity s).lfc.unlockAll = s.lfc.unlockAll := by
  unfold examineSecurity
  try dsimp only
  generalize List.finRange _ = l
  induction l generalizing s with
  | nil => simp
  | cons a l ih => simp only [List.foldl_cons, ih]; split <;> simp

@[simp] theorem leavesFollow_frame (s : State) :
    (leavesFollow s).now = s.now ∧ (leavesFollow s).startedAt = s.startedAt ∧ (leavesFollow s).lif = s.lif
      ∧ (leavesFollow s).bdr = s.bdr ∧ (leavesFollow s).ptu = s.ptu ∧ (leavesFollow s).rgu = s.rgu
      ∧ (leavesFollow s).sau = s.sau ∧ (leavesFollow s).lfu = s.lfu ∧ (leavesFollow s).acu = s.acu
      ∧ (leavesFollow s).pbu = s.pbu ∧ (leavesFollow s).cpt = s.cpt ∧ (leavesFollow s).ssu = s.ssu
      ∧ (leavesFollow s).pending = s.pending ∧ (leavesFollow s).lfc.unlockAll = s.lfc.unlockAll := by
  unfold leavesFollow
  try dsimp only
  (repeat' split) <;> simp

@[simp] theorem unlockHeard_frame (s : State) :
    (unlockHeard s).now = s.now ∧ (unlockHeard s).startedAt = s.startedAt ∧ (unlockHeard s).lif = s.lif
      ∧ (unlockHeard s).bdr = s.bdr ∧ (unlockHeard s).ptu = s.ptu ∧ (unlockHeard s).rgu = s.rgu
      ∧ (unlockHeard s).sau = s.sau ∧ (unlockHeard s).lfu = s.lfu ∧ (unlockHeard s).acu = s.acu
      ∧ (unlockHeard s).pbu = s.pbu ∧ (unlockHeard s).cpt = s.cpt ∧ (unlockHeard s).ssu = s.ssu
      ∧ (unlockHeard s).pending = s.pending := by
  unfold unlockHeard
  try dsimp only
  (repeat' split) <;> simp

@[simp] theorem leavesAtEpoch_frame (s : State) :
    (leavesAtEpoch s).now = s.now ∧ (leavesAtEpoch s).startedAt = s.startedAt ∧ (leavesAtEpoch s).lif = s.lif
      ∧ (leavesAtEpoch s).bdr = s.bdr ∧ (leavesAtEpoch s).ptu = s.ptu ∧ (leavesAtEpoch s).rgu = s.rgu
      ∧ (leavesAtEpoch s).sau = s.sau ∧ (leavesAtEpoch s).lfu = s.lfu ∧ (leavesAtEpoch s).acu = s.acu
      ∧ (leavesAtEpoch s).pbu = s.pbu ∧ (leavesAtEpoch s).cpt = s.cpt ∧ (leavesAtEpoch s).ssu = s.ssu
      ∧ (leavesAtEpoch s).pending = s.pending := by
  unfold leavesAtEpoch
  try dsimp only
  (repeat' split) <;> simp

@[simp] theorem securityRequest_frame (lock : Bool) (st : Stair) (s : State) :
    ((securityRequest lock st s).1).now = s.now ∧ ((securityRequest lock st s).1).startedAt = s.startedAt
      ∧ ((securityRequest lock st s).1).lif = s.lif ∧ ((securityRequest lock st s).1).bdr = s.bdr
      ∧ ((securityRequest lock st s).1).ptu = s.ptu ∧ ((securityRequest lock st s).1).rgu = s.rgu
      ∧ ((securityRequest lock st s).1).sau = s.sau ∧ ((securityRequest lock st s).1).lfu = s.lfu
      ∧ ((securityRequest lock st s).1).acu = s.acu ∧ ((securityRequest lock st s).1).pbu = s.pbu
      ∧ ((securityRequest lock st s).1).cpt = s.cpt ∧ ((securityRequest lock st s).1).ssu = s.ssu
      ∧ ((securityRequest lock st s).1).pending = s.pending
      ∧ ((securityRequest lock st s).1).lfc.unlockAll = s.lfc.unlockAll := by
  unfold securityRequest
  try dsimp only
  (repeat' split) <;> simp

@[simp] theorem feedbackTimeout_frame (st : Stair) (s : State) :
    (feedbackTimeout st s).now = s.now ∧ (feedbackTimeout st s).startedAt = s.startedAt
      ∧ (feedbackTimeout st s).lif = s.lif ∧ (feedbackTimeout st s).bdr = s.bdr ∧ (feedbackTimeout st s).ptu = s.ptu
      ∧ (feedbackTimeout st s).rgu = s.rgu ∧ (feedbackTimeout st s).sau = s.sau ∧ (feedbackTimeout st s).lfu = s.lfu
      ∧ (feedbackTimeout st s).acu = s.acu ∧ (feedbackTimeout st s).pbu = s.pbu ∧ (feedbackTimeout st s).cpt = s.cpt
      ∧ (feedbackTimeout st s).ssu = s.ssu ∧ (feedbackTimeout st s).pending = s.pending
      ∧ (feedbackTimeout st s).lfc.unlockAll = s.lfc.unlockAll := by
  unfold feedbackTimeout
  try dsimp only
  (repeat' split) <;> simp

@[simp] theorem closingTimeout_frame (st : Stair) (s : State) :
    (closingTimeout st s).now = s.now ∧ (closingTimeout st s).startedAt = s.startedAt
      ∧ (closingTimeout st s).lif = s.lif ∧ (closingTimeout st s).bdr = s.bdr ∧ (closingTimeout st s).ptu = s.ptu
      ∧ (closingTimeout st s).rgu = s.rgu ∧ (closingTimeout st s).sau = s.sau ∧ (closingTimeout st s).lfu = s.lfu
      ∧ (closingTimeout st s).acu = s.acu ∧ (closingTimeout st s).pbu = s.pbu ∧ (closingTimeout st s).cpt = s.cpt
      ∧ (closingTimeout st s).ssu = s.ssu ∧ (closingTimeout st s).pending = s.pending
      ∧ (closingTimeout st s).lfc.unlockAll = s.lfc.unlockAll := by
  unfold closingTimeout
  try dsimp only
  (repeat' split) <;> simp

/-! ## The Lift Unit (chapter 7) -/

@[simp] theorem carNormal_frame (b : Bank) (c : Car) (s : State) :
    (carNormal b c s).now = s.now ∧ (carNormal b c s).startedAt = s.startedAt ∧ (carNormal b c s).lif = s.lif
      ∧ (carNormal b c s).bdr = s.bdr ∧ (carNormal b c s).ptu = s.ptu ∧ (carNormal b c s).rgu = s.rgu
      ∧ (carNormal b c s).sau = s.sau ∧ (carNormal b c s).lfc = s.lfc ∧ (carNormal b c s).acu = s.acu
      ∧ (carNormal b c s).pbu = s.pbu ∧ (carNormal b c s).cpt = s.cpt ∧ (carNormal b c s).ssu = s.ssu
      ∧ (carNormal b c s).pending = s.pending := by
  unfold carNormal
  try dsimp only
  (repeat' split) <;> simp

@[simp] theorem carRecalling_frame (b : Bank) (c : Car) (s : State) :
    (carRecalling b c s).now = s.now ∧ (carRecalling b c s).startedAt = s.startedAt ∧ (carRecalling b c s).lif = s.lif
      ∧ (carRecalling b c s).bdr = s.bdr ∧ (carRecalling b c s).ptu = s.ptu ∧ (carRecalling b c s).rgu = s.rgu
      ∧ (carRecalling b c s).sau = s.sau ∧ (carRecalling b c s).lfc = s.lfc ∧ (carRecalling b c s).acu = s.acu
      ∧ (carRecalling b c s).pbu = s.pbu ∧ (carRecalling b c s).cpt = s.cpt ∧ (carRecalling b c s).ssu = s.ssu
      ∧ (carRecalling b c s).pending = s.pending := by
  unfold carRecalling State.withBank
  try dsimp only
  (repeat' split) <;> simp

@[simp] theorem carRecallStart_frame (b : Bank) (c : Car) (s : State) :
    (carRecallStart b c s).now = s.now ∧ (carRecallStart b c s).startedAt = s.startedAt
      ∧ (carRecallStart b c s).lif = s.lif ∧ (carRecallStart b c s).bdr = s.bdr ∧ (carRecallStart b c s).ptu = s.ptu
      ∧ (carRecallStart b c s).rgu = s.rgu ∧ (carRecallStart b c s).sau = s.sau ∧ (carRecallStart b c s).lfc = s.lfc
      ∧ (carRecallStart b c s).acu = s.acu ∧ (carRecallStart b c s).pbu = s.pbu ∧ (carRecallStart b c s).cpt = s.cpt
      ∧ (carRecallStart b c s).ssu = s.ssu ∧ (carRecallStart b c s).pending = s.pending := by
  unfold carRecallStart State.withBank
  try dsimp only
  (repeat' split) <;> simp

@[simp] theorem carRecallEnd_frame (b : Bank) (c : Car) (s : State) :
    (carRecallEnd b c s).now = s.now ∧ (carRecallEnd b c s).startedAt = s.startedAt ∧ (carRecallEnd b c s).lif = s.lif
      ∧ (carRecallEnd b c s).bdr = s.bdr ∧ (carRecallEnd b c s).ptu = s.ptu ∧ (carRecallEnd b c s).rgu = s.rgu
      ∧ (carRecallEnd b c s).sau = s.sau ∧ (carRecallEnd b c s).lfc = s.lfc ∧ (carRecallEnd b c s).acu = s.acu
      ∧ (carRecallEnd b c s).pbu = s.pbu ∧ (carRecallEnd b c s).cpt = s.cpt ∧ (carRecallEnd b c s).ssu = s.ssu
      ∧ (carRecallEnd b c s).pending = s.pending := by
  unfold carRecallEnd State.withBank
  try dsimp only
  (repeat' split) <;> simp

@[simp] theorem carRedirect_frame (b : Bank) (c : Car) (s : State) :
    (carRedirect b c s).now = s.now ∧ (carRedirect b c s).startedAt = s.startedAt ∧ (carRedirect b c s).lif = s.lif
      ∧ (carRedirect b c s).bdr = s.bdr ∧ (carRedirect b c s).ptu = s.ptu ∧ (carRedirect b c s).rgu = s.rgu
      ∧ (carRedirect b c s).sau = s.sau ∧ (carRedirect b c s).lfc = s.lfc ∧ (carRedirect b c s).acu = s.acu
      ∧ (carRedirect b c s).pbu = s.pbu ∧ (carRedirect b c s).cpt = s.cpt ∧ (carRedirect b c s).ssu = s.ssu
      ∧ (carRedirect b c s).pending = s.pending := by
  unfold carRedirect State.withBank
  try dsimp only
  (repeat' split) <;> simp

@[simp] theorem carParks_frame (b : Bank) (c : Car) (s : State) :
    (carParks b c s).now = s.now ∧ (carParks b c s).startedAt = s.startedAt ∧ (carParks b c s).lif = s.lif
      ∧ (carParks b c s).bdr = s.bdr ∧ (carParks b c s).ptu = s.ptu ∧ (carParks b c s).rgu = s.rgu
      ∧ (carParks b c s).sau = s.sau ∧ (carParks b c s).lfc = s.lfc ∧ (carParks b c s).acu = s.acu
      ∧ (carParks b c s).pbu = s.pbu ∧ (carParks b c s).cpt = s.cpt ∧ (carParks b c s).ssu = s.ssu
      ∧ (carParks b c s).pending = s.pending := by
  unfold carParks State.withBank
  try dsimp only
  (repeat' split) <;> simp

@[simp] theorem carAvailable_frame (b : Bank) (c : Car) (v : Bool) (s : State) :
    (carAvailable b c v s).now = s.now ∧ (carAvailable b c v s).startedAt = s.startedAt
      ∧ (carAvailable b c v s).lif = s.lif ∧ (carAvailable b c v s).bdr = s.bdr ∧ (carAvailable b c v s).ptu = s.ptu
      ∧ (carAvailable b c v s).rgu = s.rgu ∧ (carAvailable b c v s).sau = s.sau ∧ (carAvailable b c v s).lfc = s.lfc
      ∧ (carAvailable b c v s).acu = s.acu ∧ (carAvailable b c v s).pbu = s.pbu ∧ (carAvailable b c v s).cpt = s.cpt
      ∧ (carAvailable b c v s).ssu = s.ssu ∧ (carAvailable b c v s).pending = s.pending := by
  unfold carAvailable State.withBank
  try dsimp only
  (repeat' split) <;> simp

@[simp] theorem carParked_frame (b : Bank) (c : Car) (v : Bool) (s : State) :
    (carParked b c v s).now = s.now ∧ (carParked b c v s).startedAt = s.startedAt ∧ (carParked b c v s).lif = s.lif
      ∧ (carParked b c v s).bdr = s.bdr ∧ (carParked b c v s).ptu = s.ptu ∧ (carParked b c v s).rgu = s.rgu
      ∧ (carParked b c v s).sau = s.sau ∧ (carParked b c v s).lfc = s.lfc ∧ (carParked b c v s).acu = s.acu
      ∧ (carParked b c v s).pbu = s.pbu ∧ (carParked b c v s).cpt = s.cpt ∧ (carParked b c v s).ssu = s.ssu
      ∧ (carParked b c v s).pending = s.pending := by
  unfold carParked State.withBank
  try dsimp only
  (repeat' split) <;> simp

@[simp] theorem carKey_frame (b : Bank) (c : Car) (v : Bool) (s : State) :
    (carKey b c v s).now = s.now ∧ (carKey b c v s).startedAt = s.startedAt ∧ (carKey b c v s).lif = s.lif
      ∧ (carKey b c v s).bdr = s.bdr ∧ (carKey b c v s).ptu = s.ptu ∧ (carKey b c v s).rgu = s.rgu
      ∧ (carKey b c v s).sau = s.sau ∧ (carKey b c v s).lfc = s.lfc ∧ (carKey b c v s).acu = s.acu
      ∧ (carKey b c v s).pbu = s.pbu ∧ (carKey b c v s).cpt = s.cpt ∧ (carKey b c v s).ssu = s.ssu
      ∧ (carKey b c v s).pending = s.pending := by
  unfold carKey State.withBank
  try dsimp only
  (repeat' split) <;> simp

@[simp] theorem recallLimit_frame (b : Bank) (c : Car) (s : State) :
    (recallLimit b c s).now = s.now ∧ (recallLimit b c s).startedAt = s.startedAt ∧ (recallLimit b c s).lif = s.lif
      ∧ (recallLimit b c s).bdr = s.bdr ∧ (recallLimit b c s).ptu = s.ptu ∧ (recallLimit b c s).rgu = s.rgu
      ∧ (recallLimit b c s).sau = s.sau ∧ (recallLimit b c s).lfc = s.lfc ∧ (recallLimit b c s).acu = s.acu
      ∧ (recallLimit b c s).pbu = s.pbu ∧ (recallLimit b c s).cpt = s.cpt ∧ (recallLimit b c s).ssu = s.ssu
      ∧ (recallLimit b c s).pending = s.pending := by
  unfold recallLimit State.withBank
  try dsimp only
  (repeat' split) <;> simp

@[simp] theorem deriveHat_frame (b : Bank) (s : State) :
    (deriveHat b s).now = s.now ∧ (deriveHat b s).startedAt = s.startedAt ∧ (deriveHat b s).lif = s.lif
      ∧ (deriveHat b s).bdr = s.bdr ∧ (deriveHat b s).ptu = s.ptu ∧ (deriveHat b s).rgu = s.rgu
      ∧ (deriveHat b s).sau = s.sau ∧ (deriveHat b s).lfc = s.lfc ∧ (deriveHat b s).acu = s.acu
      ∧ (deriveHat b s).pbu = s.pbu ∧ (deriveHat b s).eva = s.eva ∧ (deriveHat b s).cpt = s.cpt
      ∧ (deriveHat b s).ssu = s.ssu ∧ (deriveHat b s).pending = s.pending := by
  unfold deriveHat
  try dsimp only
  (repeat' split) <;> simp

@[simp] theorem hatToggle_frame (b : Bank) (s : State) :
    (hatToggle b s).now = s.now ∧ (hatToggle b s).startedAt = s.startedAt ∧ (hatToggle b s).lif = s.lif
      ∧ (hatToggle b s).bdr = s.bdr ∧ (hatToggle b s).ptu = s.ptu ∧ (hatToggle b s).rgu = s.rgu
      ∧ (hatToggle b s).sau = s.sau ∧ (hatToggle b s).lfc = s.lfc ∧ (hatToggle b s).acu = s.acu
      ∧ (hatToggle b s).pbu = s.pbu ∧ (hatToggle b s).eva = s.eva ∧ (hatToggle b s).cpt = s.cpt
      ∧ (hatToggle b s).ssu = s.ssu ∧ (hatToggle b s).pending = s.pending := by
  unfold hatToggle State.withBank
  try dsimp only
  (repeat' split) <;> simp

@[simp] theorem alarmReport_frame (b : Bank) (v : Bool) (s : State) :
    (alarmReport b v s).now = s.now ∧ (alarmReport b v s).startedAt = s.startedAt ∧ (alarmReport b v s).lif = s.lif
      ∧ (alarmReport b v s).bdr = s.bdr ∧ (alarmReport b v s).ptu = s.ptu ∧ (alarmReport b v s).rgu = s.rgu
      ∧ (alarmReport b v s).sau = s.sau ∧ (alarmReport b v s).lfc = s.lfc ∧ (alarmReport b v s).acu = s.acu
      ∧ (alarmReport b v s).pbu = s.pbu ∧ (alarmReport b v s).eva = s.eva ∧ (alarmReport b v s).cpt = s.cpt
      ∧ (alarmReport b v s).ssu = s.ssu ∧ (alarmReport b v s).pending = s.pending := by
  unfold alarmReport
  try dsimp only
  (repeat' split) <;> simp

@[simp] theorem examineLanding_frame (b : Bank) (s : State) :
    (examineLanding b s).now = s.now ∧ (examineLanding b s).startedAt = s.startedAt ∧ (examineLanding b s).lif = s.lif
      ∧ (examineLanding b s).bdr = s.bdr ∧ (examineLanding b s).ptu = s.ptu ∧ (examineLanding b s).rgu = s.rgu
      ∧ (examineLanding b s).sau = s.sau ∧ (examineLanding b s).lfc = s.lfc ∧ (examineLanding b s).lfu = s.lfu
      ∧ (examineLanding b s).acu = s.acu ∧ (examineLanding b s).pbu = s.pbu ∧ (examineLanding b s).cpt = s.cpt
      ∧ (examineLanding b s).ssu = s.ssu ∧ (examineLanding b s).pending = s.pending := by
  unfold examineLanding State.withBank
  try dsimp only
  (repeat' split) <;> simp

@[simp] theorem eachCar_carRecallStart_frame (cfg : BankConfig) (b : Bank) (s : State) :
    (eachCar cfg (carRecallStart b) s).now = s.now ∧ (eachCar cfg (carRecallStart b) s).startedAt = s.startedAt
      ∧ (eachCar cfg (carRecallStart b) s).lif = s.lif ∧ (eachCar cfg (carRecallStart b) s).bdr = s.bdr
      ∧ (eachCar cfg (carRecallStart b) s).ptu = s.ptu ∧ (eachCar cfg (carRecallStart b) s).rgu = s.rgu
      ∧ (eachCar cfg (carRecallStart b) s).sau = s.sau ∧ (eachCar cfg (carRecallStart b) s).lfc = s.lfc
      ∧ (eachCar cfg (carRecallStart b) s).acu = s.acu ∧ (eachCar cfg (carRecallStart b) s).pbu = s.pbu
      ∧ (eachCar cfg (carRecallStart b) s).cpt = s.cpt ∧ (eachCar cfg (carRecallStart b) s).ssu = s.ssu
      ∧ (eachCar cfg (carRecallStart b) s).pending = s.pending := by
  unfold eachCar
  try dsimp only
  generalize List.finRange _ = l
  induction l generalizing s with
  | nil => simp
  | cons a l ih =>
    simp only [List.foldl_cons]
    split <;> simp [ih]

@[simp] theorem eachCar_carRecallEnd_frame (cfg : BankConfig) (b : Bank) (s : State) :
    (eachCar cfg (carRecallEnd b) s).now = s.now ∧ (eachCar cfg (carRecallEnd b) s).startedAt = s.startedAt
      ∧ (eachCar cfg (carRecallEnd b) s).lif = s.lif ∧ (eachCar cfg (carRecallEnd b) s).bdr = s.bdr
      ∧ (eachCar cfg (carRecallEnd b) s).ptu = s.ptu ∧ (eachCar cfg (carRecallEnd b) s).rgu = s.rgu
      ∧ (eachCar cfg (carRecallEnd b) s).sau = s.sau ∧ (eachCar cfg (carRecallEnd b) s).lfc = s.lfc
      ∧ (eachCar cfg (carRecallEnd b) s).acu = s.acu ∧ (eachCar cfg (carRecallEnd b) s).pbu = s.pbu
      ∧ (eachCar cfg (carRecallEnd b) s).cpt = s.cpt ∧ (eachCar cfg (carRecallEnd b) s).ssu = s.ssu
      ∧ (eachCar cfg (carRecallEnd b) s).pending = s.pending := by
  unfold eachCar
  try dsimp only
  generalize List.finRange _ = l
  induction l generalizing s with
  | nil => simp
  | cons a l ih =>
    simp only [List.foldl_cons]
    split <;> simp [ih]

@[simp] theorem eachCar_carRedirect_frame (cfg : BankConfig) (b : Bank) (s : State) :
    (eachCar cfg (carRedirect b) s).now = s.now ∧ (eachCar cfg (carRedirect b) s).startedAt = s.startedAt
      ∧ (eachCar cfg (carRedirect b) s).lif = s.lif ∧ (eachCar cfg (carRedirect b) s).bdr = s.bdr
      ∧ (eachCar cfg (carRedirect b) s).ptu = s.ptu ∧ (eachCar cfg (carRedirect b) s).rgu = s.rgu
      ∧ (eachCar cfg (carRedirect b) s).sau = s.sau ∧ (eachCar cfg (carRedirect b) s).lfc = s.lfc
      ∧ (eachCar cfg (carRedirect b) s).acu = s.acu ∧ (eachCar cfg (carRedirect b) s).pbu = s.pbu
      ∧ (eachCar cfg (carRedirect b) s).cpt = s.cpt ∧ (eachCar cfg (carRedirect b) s).ssu = s.ssu
      ∧ (eachCar cfg (carRedirect b) s).pending = s.pending := by
  unfold eachCar
  try dsimp only
  generalize List.finRange _ = l
  induction l generalizing s with
  | nil => simp
  | cons a l ih =>
    simp only [List.foldl_cons]
    split <;> simp [ih]

@[simp] theorem lobbyChange_frame (b : Bank) (s : State) :
    (lobbyChange b s).now = s.now ∧ (lobbyChange b s).startedAt = s.startedAt ∧ (lobbyChange b s).lif = s.lif
      ∧ (lobbyChange b s).bdr = s.bdr ∧ (lobbyChange b s).ptu = s.ptu ∧ (lobbyChange b s).rgu = s.rgu
      ∧ (lobbyChange b s).sau = s.sau ∧ (lobbyChange b s).lfc = s.lfc ∧ (lobbyChange b s).acu = s.acu
      ∧ (lobbyChange b s).pbu = s.pbu ∧ (lobbyChange b s).cpt = s.cpt ∧ (lobbyChange b s).ssu = s.ssu
      ∧ (lobbyChange b s).pending = s.pending := by
  unfold lobbyChange State.withBank
  try dsimp only
  (repeat' split) <;> simp

@[simp] theorem recallStart_frame (b : Bank) (s : State) :
    (recallStart b s).now = s.now ∧ (recallStart b s).startedAt = s.startedAt ∧ (recallStart b s).lif = s.lif
      ∧ (recallStart b s).bdr = s.bdr ∧ (recallStart b s).ptu = s.ptu ∧ (recallStart b s).rgu = s.rgu
      ∧ (recallStart b s).sau = s.sau ∧ (recallStart b s).lfc = s.lfc ∧ (recallStart b s).acu = s.acu
      ∧ (recallStart b s).pbu = s.pbu ∧ (recallStart b s).cpt = s.cpt ∧ (recallStart b s).ssu = s.ssu
      ∧ (recallStart b s).pending = s.pending := by
  unfold recallStart State.withBank
  try dsimp only
  (repeat' split) <;> simp

@[simp] theorem recallEnd_frame (b : Bank) (s : State) :
    (recallEnd b s).now = s.now ∧ (recallEnd b s).startedAt = s.startedAt ∧ (recallEnd b s).lif = s.lif
      ∧ (recallEnd b s).bdr = s.bdr ∧ (recallEnd b s).ptu = s.ptu ∧ (recallEnd b s).rgu = s.rgu
      ∧ (recallEnd b s).sau = s.sau ∧ (recallEnd b s).lfc = s.lfc ∧ (recallEnd b s).acu = s.acu
      ∧ (recallEnd b s).pbu = s.pbu ∧ (recallEnd b s).cpt = s.cpt ∧ (recallEnd b s).ssu = s.ssu
      ∧ (recallEnd b s).pending = s.pending := by
  unfold recallEnd State.withBank
  try dsimp only
  (repeat' split) <;> simp

@[simp] theorem deriveCause_frame (b : Bank) (s : State) :
    (deriveCause b s).now = s.now ∧ (deriveCause b s).startedAt = s.startedAt ∧ (deriveCause b s).lif = s.lif
      ∧ (deriveCause b s).bdr = s.bdr ∧ (deriveCause b s).ptu = s.ptu ∧ (deriveCause b s).rgu = s.rgu
      ∧ (deriveCause b s).sau = s.sau ∧ (deriveCause b s).lfc = s.lfc ∧ (deriveCause b s).acu = s.acu
      ∧ (deriveCause b s).pbu = s.pbu ∧ (deriveCause b s).cpt = s.cpt ∧ (deriveCause b s).ssu = s.ssu
      ∧ (deriveCause b s).pending = s.pending := by
  unfold deriveCause State.withBank
  try dsimp only
  (repeat' split) <;> simp

@[simp] theorem liftsFire_frame (s : State) :
    (liftsFire s).now = s.now ∧ (liftsFire s).startedAt = s.startedAt ∧ (liftsFire s).lif = s.lif
      ∧ (liftsFire s).bdr = s.bdr ∧ (liftsFire s).ptu = s.ptu ∧ (liftsFire s).rgu = s.rgu ∧ (liftsFire s).sau = s.sau
      ∧ (liftsFire s).lfc = s.lfc ∧ (liftsFire s).acu = s.acu ∧ (liftsFire s).pbu = s.pbu ∧ (liftsFire s).cpt = s.cpt
      ∧ (liftsFire s).ssu = s.ssu ∧ (liftsFire s).pending = s.pending := by
  simp [liftsFire, eachBank, List.finRange_succ]

@[simp] theorem manualHeard_frame (b : Bank) (v : Bool) (s : State) :
    (manualHeard b v s).now = s.now ∧ (manualHeard b v s).startedAt = s.startedAt ∧ (manualHeard b v s).lif = s.lif
      ∧ (manualHeard b v s).bdr = s.bdr ∧ (manualHeard b v s).ptu = s.ptu ∧ (manualHeard b v s).rgu = s.rgu
      ∧ (manualHeard b v s).sau = s.sau ∧ (manualHeard b v s).lfc = s.lfc ∧ (manualHeard b v s).acu = s.acu
      ∧ (manualHeard b v s).pbu = s.pbu ∧ (manualHeard b v s).cpt = s.cpt ∧ (manualHeard b v s).ssu = s.ssu
      ∧ (manualHeard b v s).pending = s.pending := by
  unfold manualHeard
  try dsimp only
  (repeat' split) <;> simp

@[simp] theorem clearLatches_frame (s : State) :
    (clearLatches s).now = s.now ∧ (clearLatches s).startedAt = s.startedAt ∧ (clearLatches s).lif = s.lif
      ∧ (clearLatches s).bdr = s.bdr ∧ (clearLatches s).ptu = s.ptu ∧ (clearLatches s).rgu = s.rgu
      ∧ (clearLatches s).sau = s.sau ∧ (clearLatches s).lfc = s.lfc ∧ (clearLatches s).acu = s.acu
      ∧ (clearLatches s).pbu = s.pbu ∧ (clearLatches s).eva = s.eva ∧ (clearLatches s).cpt = s.cpt
      ∧ (clearLatches s).ssu = s.ssu ∧ (clearLatches s).pending = s.pending := by
  simp [clearLatches, eachBank, List.finRange_succ]

@[simp] theorem bankEpochEnd_frame (b : Bank) (s : State) :
    (bankEpochEnd b s).now = s.now ∧ (bankEpochEnd b s).startedAt = s.startedAt ∧ (bankEpochEnd b s).lif = s.lif
      ∧ (bankEpochEnd b s).bdr = s.bdr ∧ (bankEpochEnd b s).ptu = s.ptu ∧ (bankEpochEnd b s).rgu = s.rgu
      ∧ (bankEpochEnd b s).sau = s.sau ∧ (bankEpochEnd b s).lfc = s.lfc ∧ (bankEpochEnd b s).acu = s.acu
      ∧ (bankEpochEnd b s).pbu = s.pbu ∧ (bankEpochEnd b s).cpt = s.cpt ∧ (bankEpochEnd b s).ssu = s.ssu
      ∧ (bankEpochEnd b s).pending = s.pending := by
  unfold bankEpochEnd State.withBank
  try dsimp only
  (repeat' split) <;> simp

@[simp] theorem liftsEpochEnd_frame (s : State) :
    (liftsEpochEnd s).now = s.now ∧ (liftsEpochEnd s).startedAt = s.startedAt ∧ (liftsEpochEnd s).lif = s.lif
      ∧ (liftsEpochEnd s).bdr = s.bdr ∧ (liftsEpochEnd s).ptu = s.ptu ∧ (liftsEpochEnd s).rgu = s.rgu
      ∧ (liftsEpochEnd s).sau = s.sau ∧ (liftsEpochEnd s).lfc = s.lfc ∧ (liftsEpochEnd s).acu = s.acu
      ∧ (liftsEpochEnd s).pbu = s.pbu ∧ (liftsEpochEnd s).cpt = s.cpt ∧ (liftsEpochEnd s).ssu = s.ssu
      ∧ (liftsEpochEnd s).pending = s.pending := by
  simp [liftsEpochEnd, eachBank, List.finRange_succ]

@[simp] theorem eachBank_lobbyChange_frame (s : State) :
    (eachBank lobbyChange s).now = s.now ∧ (eachBank lobbyChange s).startedAt = s.startedAt
      ∧ (eachBank lobbyChange s).lif = s.lif ∧ (eachBank lobbyChange s).bdr = s.bdr
      ∧ (eachBank lobbyChange s).ptu = s.ptu ∧ (eachBank lobbyChange s).rgu = s.rgu
      ∧ (eachBank lobbyChange s).sau = s.sau ∧ (eachBank lobbyChange s).lfc = s.lfc
      ∧ (eachBank lobbyChange s).acu = s.acu ∧ (eachBank lobbyChange s).pbu = s.pbu
      ∧ (eachBank lobbyChange s).cpt = s.cpt ∧ (eachBank lobbyChange s).ssu = s.ssu
      ∧ (eachBank lobbyChange s).pending = s.pending := by
  simp [eachBank, List.finRange_succ]

@[simp] theorem offerLift_frame (b : Bank) (s : State) :
    (offerLift b s).now = s.now ∧ (offerLift b s).startedAt = s.startedAt ∧ (offerLift b s).bdr = s.bdr
      ∧ (offerLift b s).ptu = s.ptu ∧ (offerLift b s).rgu = s.rgu ∧ (offerLift b s).sau = s.sau
      ∧ (offerLift b s).lfc = s.lfc ∧ (offerLift b s).lfu = s.lfu ∧ (offerLift b s).acu = s.acu
      ∧ (offerLift b s).pbu = s.pbu ∧ (offerLift b s).eva = s.eva ∧ (offerLift b s).cpt = s.cpt
      ∧ (offerLift b s).ssu = s.ssu ∧ (offerLift b s).pending = s.pending ∧ (offerLift b s).lif.rx = s.lif.rx
      ∧ (offerLift b s).lif.lineIdle = s.lif.lineIdle ∧ (offerLift b s).lif.tx = s.lif.tx
      ∧ (offerLift b s).lif.held = s.lif.held ∧ (offerLift b s).lif.txFault = s.lif.txFault
      ∧ (offerLift b s).lif.attemptOpen = s.lif.attemptOpen ∧ (offerLift b s).lif.failures = s.lif.failures
      ∧ (offerLift b s).lif.testSequence = s.lif.testSequence
      ∧ (offerLift b s).lif.duplicateSeen = s.lif.duplicateSeen ∧ (offerLift b s).lif.holdFrom = s.lif.holdFrom
      ∧ (offerLift b s).lif.txFrom = s.lif.txFrom ∧ (offerLift b s).lif.breakFrom = s.lif.breakFrom := by
  unfold offerLift
  try dsimp only
  (repeat' split) <;> simp

@[simp] theorem offerChangedLifts_frame (before : State) (s : State) :
    (offerChangedLifts before s).now = s.now ∧ (offerChangedLifts before s).startedAt = s.startedAt
      ∧ (offerChangedLifts before s).bdr = s.bdr ∧ (offerChangedLifts before s).ptu = s.ptu
      ∧ (offerChangedLifts before s).rgu = s.rgu ∧ (offerChangedLifts before s).sau = s.sau
      ∧ (offerChangedLifts before s).lfc = s.lfc ∧ (offerChangedLifts before s).lfu = s.lfu
      ∧ (offerChangedLifts before s).acu = s.acu ∧ (offerChangedLifts before s).pbu = s.pbu
      ∧ (offerChangedLifts before s).eva = s.eva ∧ (offerChangedLifts before s).cpt = s.cpt
      ∧ (offerChangedLifts before s).ssu = s.ssu ∧ (offerChangedLifts before s).pending = s.pending
      ∧ (offerChangedLifts before s).lif.rx = s.lif.rx ∧ (offerChangedLifts before s).lif.lineIdle = s.lif.lineIdle
      ∧ (offerChangedLifts before s).lif.tx = s.lif.tx ∧ (offerChangedLifts before s).lif.held = s.lif.held
      ∧ (offerChangedLifts before s).lif.txFault = s.lif.txFault
      ∧ (offerChangedLifts before s).lif.attemptOpen = s.lif.attemptOpen
      ∧ (offerChangedLifts before s).lif.failures = s.lif.failures
      ∧ (offerChangedLifts before s).lif.testSequence = s.lif.testSequence
      ∧ (offerChangedLifts before s).lif.duplicateSeen = s.lif.duplicateSeen
      ∧ (offerChangedLifts before s).lif.holdFrom = s.lif.holdFrom
      ∧ (offerChangedLifts before s).lif.txFrom = s.lif.txFrom
      ∧ (offerChangedLifts before s).lif.breakFrom = s.lif.breakFrom := by
  unfold offerChangedLifts eachBank
  generalize List.finRange _ = l
  induction l generalizing s with
  | nil => simp
  | cons a l ih =>
    simp only [List.foldl_cons]
    split <;> simp [ih]

/-! ## The Announcement Composer (chapter 8) -/

@[simp] theorem offerTone_frame (roles : List Role) (cause : Option WalkCause) (s : State) :
    ((offerTone roles cause s).1).now = s.now ∧ ((offerTone roles cause s).1).startedAt = s.startedAt
      ∧ ((offerTone roles cause s).1).lif = s.lif ∧ ((offerTone roles cause s).1).bdr = s.bdr
      ∧ ((offerTone roles cause s).1).ptu = s.ptu ∧ ((offerTone roles cause s).1).rgu = s.rgu
      ∧ ((offerTone roles cause s).1).sau = s.sau ∧ ((offerTone roles cause s).1).lfc = s.lfc
      ∧ ((offerTone roles cause s).1).lfu = s.lfu ∧ ((offerTone roles cause s).1).acu = s.acu
      ∧ ((offerTone roles cause s).1).eva = s.eva ∧ ((offerTone roles cause s).1).cpt = s.cpt
      ∧ ((offerTone roles cause s).1).ssu = s.ssu ∧ ((offerTone roles cause s).1).pending = s.pending := by
  unfold offerTone
  try dsimp only
  (repeat' split) <;> simp

@[simp] theorem recordFailure_frame (roles : List Role) (w : WalkFailure) (s : State) :
    (recordFailure roles w s).now = s.now ∧ (recordFailure roles w s).startedAt = s.startedAt
      ∧ (recordFailure roles w s).lif = s.lif ∧ (recordFailure roles w s).bdr = s.bdr
      ∧ (recordFailure roles w s).ptu = s.ptu ∧ (recordFailure roles w s).rgu = s.rgu
      ∧ (recordFailure roles w s).sau = s.sau ∧ (recordFailure roles w s).lfc = s.lfc
      ∧ (recordFailure roles w s).lfu = s.lfu ∧ (recordFailure roles w s).pbu = s.pbu
      ∧ (recordFailure roles w s).cpt = s.cpt ∧ (recordFailure roles w s).ssu = s.ssu
      ∧ (recordFailure roles w s).pending = s.pending ∧ (recordFailure roles w s).acu.table = s.acu.table
      ∧ (recordFailure roles w s).acu.state = s.acu.state ∧ (recordFailure roles w s).acu.invalid = s.acu.invalid
      ∧ (recordFailure roles w s).acu.trialFailures = s.acu.trialFailures := by
  unfold recordFailure
  try dsimp only
  (repeat' split) <;> simp

@[simp] theorem compose_frame (roles : List Role) (s : State) :
    ((compose roles s).1).now = s.now ∧ ((compose roles s).1).startedAt = s.startedAt
      ∧ ((compose roles s).1).lif = s.lif ∧ ((compose roles s).1).bdr = s.bdr ∧ ((compose roles s).1).ptu = s.ptu
      ∧ ((compose roles s).1).rgu = s.rgu ∧ ((compose roles s).1).sau = s.sau ∧ ((compose roles s).1).lfc = s.lfc
      ∧ ((compose roles s).1).lfu = s.lfu ∧ ((compose roles s).1).cpt = s.cpt ∧ ((compose roles s).1).ssu = s.ssu
      ∧ ((compose roles s).1).pending = s.pending ∧ ((compose roles s).1).acu.state = s.acu.state
      ∧ ((compose roles s).1).acu.invalid = s.acu.invalid
      ∧ ((compose roles s).1).acu.trialFailures = s.acu.trialFailures := by
  unfold compose
  try dsimp only
  (repeat' split) <;> (try (rename_i h; obtain ⟨rfl, -⟩ := Prod.ext_iff.mp h)) <;> simp

/-! ## The Playback Unit (chapter 9) -/

@[simp] theorem startGap_frame (s : State) :
    (startGap s).now = s.now ∧ (startGap s).startedAt = s.startedAt ∧ (startGap s).lif = s.lif
      ∧ (startGap s).bdr = s.bdr ∧ (startGap s).ptu = s.ptu ∧ (startGap s).rgu = s.rgu ∧ (startGap s).sau = s.sau
      ∧ (startGap s).lfc = s.lfc ∧ (startGap s).lfu = s.lfu ∧ (startGap s).acu = s.acu ∧ (startGap s).eva = s.eva
      ∧ (startGap s).cpt = s.cpt ∧ (startGap s).ssu = s.ssu ∧ (startGap s).pending = s.pending
      ∧ (startGap s).pbu.page = s.pbu.page ∧ (startGap s).pbu.inScope = s.pbu.inScope
      ∧ (startGap s).pbu.lastEnd = s.pbu.lastEnd ∧ (startGap s).pbu.ownRequest = s.pbu.ownRequest
      ∧ (startGap s).pbu.circuits = s.pbu.circuits := by
  unfold startGap
  try dsimp only
  (repeat' split) <;> simp

@[simp] theorem endAnnouncement_frame (roles : List Role) (s : State) :
    (endAnnouncement roles s).now = s.now ∧ (endAnnouncement roles s).startedAt = s.startedAt
      ∧ (endAnnouncement roles s).lif = s.lif ∧ (endAnnouncement roles s).bdr = s.bdr
      ∧ (endAnnouncement roles s).ptu = s.ptu ∧ (endAnnouncement roles s).rgu = s.rgu
      ∧ (endAnnouncement roles s).sau = s.sau ∧ (endAnnouncement roles s).lfc = s.lfc
      ∧ (endAnnouncement roles s).lfu = s.lfu ∧ (endAnnouncement roles s).acu = s.acu
      ∧ (endAnnouncement roles s).eva = s.eva ∧ (endAnnouncement roles s).cpt = s.cpt
      ∧ (endAnnouncement roles s).ssu = s.ssu ∧ (endAnnouncement roles s).pending = s.pending
      ∧ (endAnnouncement roles s).pbu.page = s.pbu.page ∧ (endAnnouncement roles s).pbu.inScope = s.pbu.inScope
      ∧ (endAnnouncement roles s).pbu.lastEnd = s.pbu.lastEnd
      ∧ (endAnnouncement roles s).pbu.ownRequest = s.pbu.ownRequest
      ∧ (endAnnouncement roles s).pbu.circuits = s.pbu.circuits := by
  unfold endAnnouncement
  try dsimp only
  (repeat' split) <;> simp

@[simp] theorem requestRoles_frame (roles : List Role) (s : State) :
    (requestRoles roles s).now = s.now ∧ (requestRoles roles s).startedAt = s.startedAt
      ∧ (requestRoles roles s).lif = s.lif ∧ (requestRoles roles s).bdr = s.bdr ∧ (requestRoles roles s).ptu = s.ptu
      ∧ (requestRoles roles s).rgu = s.rgu ∧ (requestRoles roles s).sau = s.sau ∧ (requestRoles roles s).lfc = s.lfc
      ∧ (requestRoles roles s).lfu = s.lfu ∧ (requestRoles roles s).cpt = s.cpt ∧ (requestRoles roles s).ssu = s.ssu
      ∧ (requestRoles roles s).pending = s.pending := by
  unfold requestRoles
  split <;> (rename_i h; obtain ⟨rfl, -⟩ := Prod.ext_iff.mp h) <;> (try dsimp only) <;> (try split) <;> simp

@[simp] theorem requestProgram_frame (s : State) :
    (requestProgram s).now = s.now ∧ (requestProgram s).startedAt = s.startedAt ∧ (requestProgram s).lif = s.lif
      ∧ (requestProgram s).bdr = s.bdr ∧ (requestProgram s).ptu = s.ptu ∧ (requestProgram s).rgu = s.rgu
      ∧ (requestProgram s).sau = s.sau ∧ (requestProgram s).lfc = s.lfc ∧ (requestProgram s).lfu = s.lfu
      ∧ (requestProgram s).cpt = s.cpt ∧ (requestProgram s).ssu = s.ssu ∧ (requestProgram s).pending = s.pending := by
  unfold requestProgram
  try dsimp only
  (repeat' split) <;> simp

@[simp] theorem requestEach_frame (l : List OneShot) (s : State) :
    (requestEach l s).now = s.now ∧ (requestEach l s).startedAt = s.startedAt ∧ (requestEach l s).lif = s.lif
      ∧ (requestEach l s).bdr = s.bdr ∧ (requestEach l s).ptu = s.ptu ∧ (requestEach l s).rgu = s.rgu
      ∧ (requestEach l s).sau = s.sau ∧ (requestEach l s).lfc = s.lfc ∧ (requestEach l s).lfu = s.lfu
      ∧ (requestEach l s).cpt = s.cpt ∧ (requestEach l s).ssu = s.ssu ∧ (requestEach l s).pending = s.pending := by
  induction l generalizing s with
  | nil => simp [requestEach]
  | cons o l ih =>
    unfold requestEach
    split
    · rename_i h; obtain ⟨rfl, -⟩ := Prod.ext_iff.mp h; simp
    · rename_i h; obtain ⟨rfl, -⟩ := Prod.ext_iff.mp h; simp [ih]

@[simp] theorem requestOneShots_frame (s : State) :
    (requestOneShots s).now = s.now ∧ (requestOneShots s).startedAt = s.startedAt ∧ (requestOneShots s).lif = s.lif
      ∧ (requestOneShots s).bdr = s.bdr ∧ (requestOneShots s).ptu = s.ptu ∧ (requestOneShots s).rgu = s.rgu
      ∧ (requestOneShots s).sau = s.sau ∧ (requestOneShots s).lfc = s.lfc ∧ (requestOneShots s).lfu = s.lfu
      ∧ (requestOneShots s).cpt = s.cpt ∧ (requestOneShots s).ssu = s.ssu ∧ (requestOneShots s).pending = s.pending := by
  unfold requestOneShots
  try dsimp only
  (repeat' split) <;> simp

@[simp] theorem startHead_frame (s : State) :
    (startHead s).now = s.now ∧ (startHead s).startedAt = s.startedAt ∧ (startHead s).lif = s.lif
      ∧ (startHead s).bdr = s.bdr ∧ (startHead s).ptu = s.ptu ∧ (startHead s).rgu = s.rgu ∧ (startHead s).sau = s.sau
      ∧ (startHead s).lfc = s.lfc ∧ (startHead s).lfu = s.lfu ∧ (startHead s).acu = s.acu ∧ (startHead s).eva = s.eva
      ∧ (startHead s).cpt = s.cpt ∧ (startHead s).ssu = s.ssu ∧ (startHead s).pending = s.pending := by
  unfold startHead
  try dsimp only
  (repeat' split) <;> simp

@[simp] theorem settle_frame (s : State) :
    (settle s).now = s.now ∧ (settle s).startedAt = s.startedAt ∧ (settle s).lif = s.lif ∧ (settle s).bdr = s.bdr
      ∧ (settle s).ptu = s.ptu ∧ (settle s).rgu = s.rgu ∧ (settle s).sau = s.sau ∧ (settle s).lfc = s.lfc
      ∧ (settle s).lfu = s.lfu ∧ (settle s).acu = s.acu ∧ (settle s).eva = s.eva ∧ (settle s).cpt = s.cpt
      ∧ (settle s).ssu = s.ssu ∧ (settle s).pending = s.pending := by
  unfold settle
  try dsimp only
  (repeat' split) <;> simp

@[simp] theorem requestAnew_frame (s : State) :
    (requestAnew s).now = s.now ∧ (requestAnew s).startedAt = s.startedAt ∧ (requestAnew s).lif = s.lif
      ∧ (requestAnew s).bdr = s.bdr ∧ (requestAnew s).ptu = s.ptu ∧ (requestAnew s).rgu = s.rgu
      ∧ (requestAnew s).sau = s.sau ∧ (requestAnew s).lfc = s.lfc ∧ (requestAnew s).lfu = s.lfu
      ∧ (requestAnew s).cpt = s.cpt ∧ (requestAnew s).ssu = s.ssu ∧ (requestAnew s).pending = s.pending := by
  unfold requestAnew
  try dsimp only
  (repeat' split) <;> simp

@[simp] theorem applyChange_frame (s : State) :
    (applyChange s).now = s.now ∧ (applyChange s).startedAt = s.startedAt ∧ (applyChange s).lif = s.lif
      ∧ (applyChange s).bdr = s.bdr ∧ (applyChange s).ptu = s.ptu ∧ (applyChange s).rgu = s.rgu
      ∧ (applyChange s).sau = s.sau ∧ (applyChange s).lfc = s.lfc ∧ (applyChange s).lfu = s.lfu
      ∧ (applyChange s).cpt = s.cpt ∧ (applyChange s).ssu = s.ssu ∧ (applyChange s).pending = s.pending := by
  unfold applyChange
  try dsimp only
  (repeat' split) <;> simp

@[simp] theorem changeProgram_frame (program : Program) (allClear : Bool) (s : State) :
    (changeProgram program allClear s).now = s.now ∧ (changeProgram program allClear s).startedAt = s.startedAt
      ∧ (changeProgram program allClear s).lif = s.lif ∧ (changeProgram program allClear s).bdr = s.bdr
      ∧ (changeProgram program allClear s).ptu = s.ptu ∧ (changeProgram program allClear s).rgu = s.rgu
      ∧ (changeProgram program allClear s).sau = s.sau ∧ (changeProgram program allClear s).lfc = s.lfc
      ∧ (changeProgram program allClear s).lfu = s.lfu ∧ (changeProgram program allClear s).cpt = s.cpt
      ∧ (changeProgram program allClear s).ssu = s.ssu ∧ (changeProgram program allClear s).pending = s.pending := by
  unfold changeProgram
  try dsimp only
  (repeat' split) <;> simp

@[simp] theorem appendOneShot_frame (o : OneShot) (s : State) :
    (appendOneShot o s).now = s.now ∧ (appendOneShot o s).startedAt = s.startedAt ∧ (appendOneShot o s).lif = s.lif
      ∧ (appendOneShot o s).bdr = s.bdr ∧ (appendOneShot o s).ptu = s.ptu ∧ (appendOneShot o s).rgu = s.rgu
      ∧ (appendOneShot o s).sau = s.sau ∧ (appendOneShot o s).lfc = s.lfc ∧ (appendOneShot o s).lfu = s.lfu
      ∧ (appendOneShot o s).cpt = s.cpt ∧ (appendOneShot o s).ssu = s.ssu ∧ (appendOneShot o s).pending = s.pending := by
  unfold appendOneShot
  try dsimp only
  (repeat' split) <;> simp

@[simp] theorem deriveProgram_frame (s : State) :
    (deriveProgram s).now = s.now ∧ (deriveProgram s).startedAt = s.startedAt ∧ (deriveProgram s).lif = s.lif
      ∧ (deriveProgram s).bdr = s.bdr ∧ (deriveProgram s).ptu = s.ptu ∧ (deriveProgram s).rgu = s.rgu
      ∧ (deriveProgram s).sau = s.sau ∧ (deriveProgram s).lfc = s.lfc ∧ (deriveProgram s).lfu = s.lfu
      ∧ (deriveProgram s).cpt = s.cpt ∧ (deriveProgram s).ssu = s.ssu ∧ (deriveProgram s).pending = s.pending := by
  unfold deriveProgram
  try dsimp only
  (repeat' split) <;> simp

@[simp] theorem playPhase_frame (before : Phase) (s : State) :
    (playPhase before s).now = s.now ∧ (playPhase before s).startedAt = s.startedAt ∧ (playPhase before s).lif = s.lif
      ∧ (playPhase before s).bdr = s.bdr ∧ (playPhase before s).ptu = s.ptu ∧ (playPhase before s).rgu = s.rgu
      ∧ (playPhase before s).sau = s.sau ∧ (playPhase before s).lfc = s.lfc ∧ (playPhase before s).lfu = s.lfu
      ∧ (playPhase before s).cpt = s.cpt ∧ (playPhase before s).ssu = s.ssu ∧ (playPhase before s).pending = s.pending := by
  unfold playPhase
  try dsimp only
  (repeat' split) <;> simp

@[simp] theorem playEpoch_frame (before : Phase) (s : State) :
    (playEpoch before s).now = s.now ∧ (playEpoch before s).startedAt = s.startedAt ∧ (playEpoch before s).lif = s.lif
      ∧ (playEpoch before s).bdr = s.bdr ∧ (playEpoch before s).ptu = s.ptu ∧ (playEpoch before s).rgu = s.rgu
      ∧ (playEpoch before s).sau = s.sau ∧ (playEpoch before s).lfc = s.lfc ∧ (playEpoch before s).lfu = s.lfu
      ∧ (playEpoch before s).cpt = s.cpt ∧ (playEpoch before s).ssu = s.ssu ∧ (playEpoch before s).pending = s.pending := by
  unfold playEpoch
  try dsimp only
  (repeat' split) <;> simp

@[simp] theorem removeClip_frame (s : State) :
    (removeClip s).now = s.now ∧ (removeClip s).startedAt = s.startedAt ∧ (removeClip s).lif = s.lif
      ∧ (removeClip s).bdr = s.bdr ∧ (removeClip s).ptu = s.ptu ∧ (removeClip s).rgu = s.rgu
      ∧ (removeClip s).sau = s.sau ∧ (removeClip s).lfc = s.lfc ∧ (removeClip s).lfu = s.lfu
      ∧ (removeClip s).acu = s.acu ∧ (removeClip s).eva = s.eva ∧ (removeClip s).cpt = s.cpt
      ∧ (removeClip s).ssu = s.ssu ∧ (removeClip s).pending = s.pending := by
  unfold removeClip
  try dsimp only
  (repeat' split) <;> simp

@[simp] theorem retry_frame (s : State) :
    (retry s).now = s.now ∧ (retry s).startedAt = s.startedAt ∧ (retry s).lif = s.lif ∧ (retry s).bdr = s.bdr
      ∧ (retry s).ptu = s.ptu ∧ (retry s).rgu = s.rgu ∧ (retry s).sau = s.sau ∧ (retry s).lfc = s.lfc
      ∧ (retry s).lfu = s.lfu ∧ (retry s).cpt = s.cpt ∧ (retry s).ssu = s.ssu ∧ (retry s).pending = s.pending := by
  unfold retry
  try dsimp only
  (repeat' split) <;> simp

@[simp] theorem clipBoundary_frame (s : State) :
    (clipBoundary s).now = s.now ∧ (clipBoundary s).startedAt = s.startedAt ∧ (clipBoundary s).lif = s.lif
      ∧ (clipBoundary s).bdr = s.bdr ∧ (clipBoundary s).ptu = s.ptu ∧ (clipBoundary s).rgu = s.rgu
      ∧ (clipBoundary s).sau = s.sau ∧ (clipBoundary s).lfc = s.lfc ∧ (clipBoundary s).lfu = s.lfu
      ∧ (clipBoundary s).cpt = s.cpt ∧ (clipBoundary s).ssu = s.ssu ∧ (clipBoundary s).pending = s.pending := by
  unfold clipBoundary
  try dsimp only
  (repeat' split) <;> simp

@[simp] theorem faultClip_frame (n : Nat) (s : State) :
    (faultClip n s).now = s.now ∧ (faultClip n s).startedAt = s.startedAt ∧ (faultClip n s).lif = s.lif
      ∧ (faultClip n s).bdr = s.bdr ∧ (faultClip n s).ptu = s.ptu ∧ (faultClip n s).rgu = s.rgu
      ∧ (faultClip n s).sau = s.sau ∧ (faultClip n s).lfc = s.lfc ∧ (faultClip n s).lfu = s.lfu
      ∧ (faultClip n s).acu = s.acu ∧ (faultClip n s).cpt = s.cpt ∧ (faultClip n s).ssu = s.ssu
      ∧ (faultClip n s).pending = s.pending := by
  unfold faultClip
  try dsimp only
  (repeat' split) <;> simp

@[simp] theorem headerRead_frame (h : Option ClipHeader) (s : State) :
    (headerRead h s).now = s.now ∧ (headerRead h s).startedAt = s.startedAt ∧ (headerRead h s).lif = s.lif
      ∧ (headerRead h s).bdr = s.bdr ∧ (headerRead h s).ptu = s.ptu ∧ (headerRead h s).rgu = s.rgu
      ∧ (headerRead h s).sau = s.sau ∧ (headerRead h s).lfc = s.lfc ∧ (headerRead h s).lfu = s.lfu
      ∧ (headerRead h s).cpt = s.cpt ∧ (headerRead h s).ssu = s.ssu ∧ (headerRead h s).pending = s.pending := by
  unfold headerRead
  try dsimp only
  (repeat' split) <;> simp

@[simp] theorem blockFilled_frame (data : List Byte) (s : State) :
    (blockFilled data s).now = s.now ∧ (blockFilled data s).startedAt = s.startedAt ∧ (blockFilled data s).lif = s.lif
      ∧ (blockFilled data s).bdr = s.bdr ∧ (blockFilled data s).ptu = s.ptu ∧ (blockFilled data s).rgu = s.rgu
      ∧ (blockFilled data s).sau = s.sau ∧ (blockFilled data s).lfc = s.lfc ∧ (blockFilled data s).lfu = s.lfu
      ∧ (blockFilled data s).acu = s.acu ∧ (blockFilled data s).eva = s.eva ∧ (blockFilled data s).cpt = s.cpt
      ∧ (blockFilled data s).ssu = s.ssu ∧ (blockFilled data s).pending = s.pending := by
  unfold blockFilled
  try dsimp only
  (repeat' split) <;> simp

@[simp] theorem blockSounded_frame (s : State) :
    (blockSounded s).now = s.now ∧ (blockSounded s).startedAt = s.startedAt ∧ (blockSounded s).lif = s.lif
      ∧ (blockSounded s).bdr = s.bdr ∧ (blockSounded s).ptu = s.ptu ∧ (blockSounded s).rgu = s.rgu
      ∧ (blockSounded s).sau = s.sau ∧ (blockSounded s).lfc = s.lfc ∧ (blockSounded s).lfu = s.lfu
      ∧ (blockSounded s).acu = s.acu ∧ (blockSounded s).eva = s.eva ∧ (blockSounded s).cpt = s.cpt
      ∧ (blockSounded s).ssu = s.ssu ∧ (blockSounded s).pending = s.pending := by
  unfold blockSounded
  try dsimp only
  (repeat' split) <;> simp

@[simp] theorem underrunEnds_frame (s : State) :
    (underrunEnds s).now = s.now ∧ (underrunEnds s).startedAt = s.startedAt ∧ (underrunEnds s).lif = s.lif
      ∧ (underrunEnds s).bdr = s.bdr ∧ (underrunEnds s).ptu = s.ptu ∧ (underrunEnds s).rgu = s.rgu
      ∧ (underrunEnds s).sau = s.sau ∧ (underrunEnds s).lfc = s.lfc ∧ (underrunEnds s).lfu = s.lfu
      ∧ (underrunEnds s).cpt = s.cpt ∧ (underrunEnds s).ssu = s.ssu ∧ (underrunEnds s).pending = s.pending := by
  unfold underrunEnds
  try dsimp only
  (repeat' split) <;> simp

@[simp] theorem clipEnds_frame (s : State) :
    (clipEnds s).now = s.now ∧ (clipEnds s).startedAt = s.startedAt ∧ (clipEnds s).lif = s.lif
      ∧ (clipEnds s).bdr = s.bdr ∧ (clipEnds s).ptu = s.ptu ∧ (clipEnds s).rgu = s.rgu ∧ (clipEnds s).sau = s.sau
      ∧ (clipEnds s).lfc = s.lfc ∧ (clipEnds s).lfu = s.lfu ∧ (clipEnds s).cpt = s.cpt ∧ (clipEnds s).ssu = s.ssu
      ∧ (clipEnds s).pending = s.pending := by
  unfold clipEnds
  try dsimp only
  (repeat' split) <;> simp

@[simp] theorem toneEnds_frame (s : State) :
    (toneEnds s).now = s.now ∧ (toneEnds s).startedAt = s.startedAt ∧ (toneEnds s).lif = s.lif
      ∧ (toneEnds s).bdr = s.bdr ∧ (toneEnds s).ptu = s.ptu ∧ (toneEnds s).rgu = s.rgu ∧ (toneEnds s).sau = s.sau
      ∧ (toneEnds s).lfc = s.lfc ∧ (toneEnds s).lfu = s.lfu ∧ (toneEnds s).cpt = s.cpt ∧ (toneEnds s).ssu = s.ssu
      ∧ (toneEnds s).pending = s.pending := by
  unfold toneEnds
  try dsimp only
  (repeat' split) <;> simp

@[simp] theorem gapEnds_frame (s : State) :
    (gapEnds s).now = s.now ∧ (gapEnds s).startedAt = s.startedAt ∧ (gapEnds s).lif = s.lif ∧ (gapEnds s).bdr = s.bdr
      ∧ (gapEnds s).ptu = s.ptu ∧ (gapEnds s).rgu = s.rgu ∧ (gapEnds s).sau = s.sau ∧ (gapEnds s).lfc = s.lfc
      ∧ (gapEnds s).lfu = s.lfu ∧ (gapEnds s).cpt = s.cpt ∧ (gapEnds s).ssu = s.ssu ∧ (gapEnds s).pending = s.pending := by
  unfold gapEnds
  try dsimp only
  (repeat' split) <;> simp

@[simp] theorem setOwnRequest_frame (r : OwnRequest) (s : State) :
    (setOwnRequest r s).now = s.now ∧ (setOwnRequest r s).startedAt = s.startedAt ∧ (setOwnRequest r s).lif = s.lif
      ∧ (setOwnRequest r s).bdr = s.bdr ∧ (setOwnRequest r s).ptu = s.ptu ∧ (setOwnRequest r s).rgu = s.rgu
      ∧ (setOwnRequest r s).sau = s.sau ∧ (setOwnRequest r s).lfc = s.lfc ∧ (setOwnRequest r s).lfu = s.lfu
      ∧ (setOwnRequest r s).acu = s.acu ∧ (setOwnRequest r s).cpt = s.cpt ∧ (setOwnRequest r s).ssu = s.ssu
      ∧ (setOwnRequest r s).pending = s.pending := by
  unfold setOwnRequest
  try dsimp only
  (repeat' split) <;> simp

@[simp] theorem pageTakesFloor_frame (s : State) :
    (pageTakesFloor s).now = s.now ∧ (pageTakesFloor s).startedAt = s.startedAt ∧ (pageTakesFloor s).lif = s.lif
      ∧ (pageTakesFloor s).bdr = s.bdr ∧ (pageTakesFloor s).ptu = s.ptu ∧ (pageTakesFloor s).rgu = s.rgu
      ∧ (pageTakesFloor s).sau = s.sau ∧ (pageTakesFloor s).lfc = s.lfc ∧ (pageTakesFloor s).lfu = s.lfu
      ∧ (pageTakesFloor s).acu = s.acu ∧ (pageTakesFloor s).eva = s.eva ∧ (pageTakesFloor s).cpt = s.cpt
      ∧ (pageTakesFloor s).ssu = s.ssu ∧ (pageTakesFloor s).pending = s.pending := by
  unfold pageTakesFloor
  try dsimp only
  (repeat' split) <;> simp

@[simp] theorem pageFreesFloor_frame (s : State) :
    (pageFreesFloor s).now = s.now ∧ (pageFreesFloor s).startedAt = s.startedAt ∧ (pageFreesFloor s).lif = s.lif
      ∧ (pageFreesFloor s).bdr = s.bdr ∧ (pageFreesFloor s).ptu = s.ptu ∧ (pageFreesFloor s).rgu = s.rgu
      ∧ (pageFreesFloor s).sau = s.sau ∧ (pageFreesFloor s).lfc = s.lfc ∧ (pageFreesFloor s).lfu = s.lfu
      ∧ (pageFreesFloor s).cpt = s.cpt ∧ (pageFreesFloor s).ssu = s.ssu ∧ (pageFreesFloor s).pending = s.pending := by
  unfold pageFreesFloor
  try dsimp only
  (repeat' split) <;> simp

@[simp] theorem withdrawPage_frame (missed : OwnRequest) (s : State) :
    (withdrawPage missed s).now = s.now ∧ (withdrawPage missed s).startedAt = s.startedAt
      ∧ (withdrawPage missed s).bdr = s.bdr ∧ (withdrawPage missed s).ptu = s.ptu
      ∧ (withdrawPage missed s).rgu = s.rgu ∧ (withdrawPage missed s).sau = s.sau
      ∧ (withdrawPage missed s).lfc = s.lfc ∧ (withdrawPage missed s).lfu = s.lfu
      ∧ (withdrawPage missed s).acu = s.acu ∧ (withdrawPage missed s).cpt = s.cpt
      ∧ (withdrawPage missed s).ssu = s.ssu ∧ (withdrawPage missed s).pending = s.pending
      ∧ (withdrawPage missed s).lif.rx = s.lif.rx ∧ (withdrawPage missed s).lif.lineIdle = s.lif.lineIdle
      ∧ (withdrawPage missed s).lif.tx = s.lif.tx ∧ (withdrawPage missed s).lif.held = s.lif.held
      ∧ (withdrawPage missed s).lif.txFault = s.lif.txFault
      ∧ (withdrawPage missed s).lif.attemptOpen = s.lif.attemptOpen
      ∧ (withdrawPage missed s).lif.failures = s.lif.failures
      ∧ (withdrawPage missed s).lif.testSequence = s.lif.testSequence
      ∧ (withdrawPage missed s).lif.duplicateSeen = s.lif.duplicateSeen
      ∧ (withdrawPage missed s).lif.holdFrom = s.lif.holdFrom ∧ (withdrawPage missed s).lif.txFrom = s.lif.txFrom
      ∧ (withdrawPage missed s).lif.breakFrom = s.lif.breakFrom := by
  unfold withdrawPage
  try dsimp only
  (repeat' split) <;> (try (rename_i h; obtain ⟨rfl, -⟩ := Prod.ext_iff.mp h)) <;> simp

@[simp] theorem endPage_frame (why : PageEnd) (s : State) :
    (endPage why s).now = s.now ∧ (endPage why s).startedAt = s.startedAt ∧ (endPage why s).bdr = s.bdr
      ∧ (endPage why s).ptu = s.ptu ∧ (endPage why s).rgu = s.rgu ∧ (endPage why s).sau = s.sau
      ∧ (endPage why s).lfc = s.lfc ∧ (endPage why s).lfu = s.lfu ∧ (endPage why s).cpt = s.cpt
      ∧ (endPage why s).ssu = s.ssu ∧ (endPage why s).pending = s.pending ∧ (endPage why s).lif.rx = s.lif.rx
      ∧ (endPage why s).lif.lineIdle = s.lif.lineIdle ∧ (endPage why s).lif.tx = s.lif.tx
      ∧ (endPage why s).lif.held = s.lif.held ∧ (endPage why s).lif.txFault = s.lif.txFault
      ∧ (endPage why s).lif.attemptOpen = s.lif.attemptOpen ∧ (endPage why s).lif.failures = s.lif.failures
      ∧ (endPage why s).lif.testSequence = s.lif.testSequence
      ∧ (endPage why s).lif.duplicateSeen = s.lif.duplicateSeen ∧ (endPage why s).lif.holdFrom = s.lif.holdFrom
      ∧ (endPage why s).lif.txFrom = s.lif.txFrom ∧ (endPage why s).lif.breakFrom = s.lif.breakFrom := by
  unfold endPage
  try dsimp only
  (repeat' split) <;> simp

@[simp] theorem losePage_frame (s : State) :
    (losePage s).now = s.now ∧ (losePage s).startedAt = s.startedAt ∧ (losePage s).bdr = s.bdr
      ∧ (losePage s).ptu = s.ptu ∧ (losePage s).rgu = s.rgu ∧ (losePage s).sau = s.sau ∧ (losePage s).lfc = s.lfc
      ∧ (losePage s).lfu = s.lfu ∧ (losePage s).acu = s.acu ∧ (losePage s).ssu = s.ssu
      ∧ (losePage s).pending = s.pending ∧ (losePage s).lif.rx = s.lif.rx ∧ (losePage s).lif.lineIdle = s.lif.lineIdle
      ∧ (losePage s).lif.tx = s.lif.tx ∧ (losePage s).lif.held = s.lif.held ∧ (losePage s).lif.txFault = s.lif.txFault
      ∧ (losePage s).lif.attemptOpen = s.lif.attemptOpen ∧ (losePage s).lif.failures = s.lif.failures
      ∧ (losePage s).lif.testSequence = s.lif.testSequence ∧ (losePage s).lif.duplicateSeen = s.lif.duplicateSeen
      ∧ (losePage s).lif.holdFrom = s.lif.holdFrom ∧ (losePage s).lif.txFrom = s.lif.txFrom
      ∧ (losePage s).lif.breakFrom = s.lif.breakFrom := by
  unfold losePage
  try dsimp only
  (repeat' split) <;> simp

@[simp] theorem beginPage_frame (sender : Sender) (scope : PageScope) (sentHere : Bool) (s : State) :
    (beginPage sender scope sentHere s).now = s.now ∧ (beginPage sender scope sentHere s).startedAt = s.startedAt
      ∧ (beginPage sender scope sentHere s).bdr = s.bdr ∧ (beginPage sender scope sentHere s).ptu = s.ptu
      ∧ (beginPage sender scope sentHere s).rgu = s.rgu ∧ (beginPage sender scope sentHere s).sau = s.sau
      ∧ (beginPage sender scope sentHere s).lfc = s.lfc ∧ (beginPage sender scope sentHere s).lfu = s.lfu
      ∧ (beginPage sender scope sentHere s).acu = s.acu ∧ (beginPage sender scope sentHere s).ssu = s.ssu
      ∧ (beginPage sender scope sentHere s).pending = s.pending
      ∧ (beginPage sender scope sentHere s).lif.rx = s.lif.rx
      ∧ (beginPage sender scope sentHere s).lif.lineIdle = s.lif.lineIdle
      ∧ (beginPage sender scope sentHere s).lif.tx = s.lif.tx
      ∧ (beginPage sender scope sentHere s).lif.held = s.lif.held
      ∧ (beginPage sender scope sentHere s).lif.txFault = s.lif.txFault
      ∧ (beginPage sender scope sentHere s).lif.attemptOpen = s.lif.attemptOpen
      ∧ (beginPage sender scope sentHere s).lif.failures = s.lif.failures
      ∧ (beginPage sender scope sentHere s).lif.testSequence = s.lif.testSequence
      ∧ (beginPage sender scope sentHere s).lif.duplicateSeen = s.lif.duplicateSeen
      ∧ (beginPage sender scope sentHere s).lif.holdFrom = s.lif.holdFrom
      ∧ (beginPage sender scope sentHere s).lif.txFrom = s.lif.txFrom
      ∧ (beginPage sender scope sentHere s).lif.breakFrom = s.lif.breakFrom := by
  unfold beginPage
  try dsimp only
  (repeat' split) <;> simp

@[simp] theorem pageStartHeard_frame (sender : Sender) (scope : PageScope) (sentHere : Bool) (s : State) :
    (pageStartHeard sender scope sentHere s).now = s.now
      ∧ (pageStartHeard sender scope sentHere s).startedAt = s.startedAt
      ∧ (pageStartHeard sender scope sentHere s).bdr = s.bdr ∧ (pageStartHeard sender scope sentHere s).ptu = s.ptu
      ∧ (pageStartHeard sender scope sentHere s).rgu = s.rgu ∧ (pageStartHeard sender scope sentHere s).sau = s.sau
      ∧ (pageStartHeard sender scope sentHere s).lfc = s.lfc ∧ (pageStartHeard sender scope sentHere s).lfu = s.lfu
      ∧ (pageStartHeard sender scope sentHere s).ssu = s.ssu
      ∧ (pageStartHeard sender scope sentHere s).pending = s.pending
      ∧ (pageStartHeard sender scope sentHere s).lif.rx = s.lif.rx
      ∧ (pageStartHeard sender scope sentHere s).lif.lineIdle = s.lif.lineIdle
      ∧ (pageStartHeard sender scope sentHere s).lif.tx = s.lif.tx
      ∧ (pageStartHeard sender scope sentHere s).lif.held = s.lif.held
      ∧ (pageStartHeard sender scope sentHere s).lif.txFault = s.lif.txFault
      ∧ (pageStartHeard sender scope sentHere s).lif.attemptOpen = s.lif.attemptOpen
      ∧ (pageStartHeard sender scope sentHere s).lif.failures = s.lif.failures
      ∧ (pageStartHeard sender scope sentHere s).lif.testSequence = s.lif.testSequence
      ∧ (pageStartHeard sender scope sentHere s).lif.duplicateSeen = s.lif.duplicateSeen
      ∧ (pageStartHeard sender scope sentHere s).lif.holdFrom = s.lif.holdFrom
      ∧ (pageStartHeard sender scope sentHere s).lif.txFrom = s.lif.txFrom
      ∧ (pageStartHeard sender scope sentHere s).lif.breakFrom = s.lif.breakFrom := by
  unfold pageStartHeard
  try dsimp only
  (repeat' split) <;> simp

@[simp] theorem pageStopHeard_frame (sender : Sender) (sentHere : Bool) (s : State) :
    (pageStopHeard sender sentHere s).now = s.now ∧ (pageStopHeard sender sentHere s).startedAt = s.startedAt
      ∧ (pageStopHeard sender sentHere s).bdr = s.bdr ∧ (pageStopHeard sender sentHere s).ptu = s.ptu
      ∧ (pageStopHeard sender sentHere s).rgu = s.rgu ∧ (pageStopHeard sender sentHere s).sau = s.sau
      ∧ (pageStopHeard sender sentHere s).lfc = s.lfc ∧ (pageStopHeard sender sentHere s).lfu = s.lfu
      ∧ (pageStopHeard sender sentHere s).cpt = s.cpt ∧ (pageStopHeard sender sentHere s).ssu = s.ssu
      ∧ (pageStopHeard sender sentHere s).pending = s.pending ∧ (pageStopHeard sender sentHere s).lif.rx = s.lif.rx
      ∧ (pageStopHeard sender sentHere s).lif.lineIdle = s.lif.lineIdle
      ∧ (pageStopHeard sender sentHere s).lif.tx = s.lif.tx ∧ (pageStopHeard sender sentHere s).lif.held = s.lif.held
      ∧ (pageStopHeard sender sentHere s).lif.txFault = s.lif.txFault
      ∧ (pageStopHeard sender sentHere s).lif.attemptOpen = s.lif.attemptOpen
      ∧ (pageStopHeard sender sentHere s).lif.failures = s.lif.failures
      ∧ (pageStopHeard sender sentHere s).lif.testSequence = s.lif.testSequence
      ∧ (pageStopHeard sender sentHere s).lif.duplicateSeen = s.lif.duplicateSeen
      ∧ (pageStopHeard sender sentHere s).lif.holdFrom = s.lif.holdFrom
      ∧ (pageStopHeard sender sentHere s).lif.txFrom = s.lif.txFrom
      ∧ (pageStopHeard sender sentHere s).lif.breakFrom = s.lif.breakFrom := by
  unfold pageStopHeard
  try dsimp only
  (repeat' split) <;> simp

@[simp] theorem pageOwnerLost_frame (lost : Sender) (s : State) :
    (pageOwnerLost lost s).now = s.now ∧ (pageOwnerLost lost s).startedAt = s.startedAt
      ∧ (pageOwnerLost lost s).bdr = s.bdr ∧ (pageOwnerLost lost s).ptu = s.ptu ∧ (pageOwnerLost lost s).rgu = s.rgu
      ∧ (pageOwnerLost lost s).sau = s.sau ∧ (pageOwnerLost lost s).lfc = s.lfc ∧ (pageOwnerLost lost s).lfu = s.lfu
      ∧ (pageOwnerLost lost s).cpt = s.cpt ∧ (pageOwnerLost lost s).ssu = s.ssu
      ∧ (pageOwnerLost lost s).pending = s.pending ∧ (pageOwnerLost lost s).lif.rx = s.lif.rx
      ∧ (pageOwnerLost lost s).lif.lineIdle = s.lif.lineIdle ∧ (pageOwnerLost lost s).lif.tx = s.lif.tx
      ∧ (pageOwnerLost lost s).lif.held = s.lif.held ∧ (pageOwnerLost lost s).lif.txFault = s.lif.txFault
      ∧ (pageOwnerLost lost s).lif.attemptOpen = s.lif.attemptOpen
      ∧ (pageOwnerLost lost s).lif.failures = s.lif.failures
      ∧ (pageOwnerLost lost s).lif.testSequence = s.lif.testSequence
      ∧ (pageOwnerLost lost s).lif.duplicateSeen = s.lif.duplicateSeen
      ∧ (pageOwnerLost lost s).lif.holdFrom = s.lif.holdFrom ∧ (pageOwnerLost lost s).lif.txFrom = s.lif.txFrom
      ∧ (pageOwnerLost lost s).lif.breakFrom = s.lif.breakFrom := by
  unfold pageOwnerLost
  try dsimp only
  (repeat' split) <;> simp

@[simp] theorem pageExpires_frame (s : State) :
    (pageExpires s).now = s.now ∧ (pageExpires s).startedAt = s.startedAt ∧ (pageExpires s).bdr = s.bdr
      ∧ (pageExpires s).ptu = s.ptu ∧ (pageExpires s).rgu = s.rgu ∧ (pageExpires s).sau = s.sau
      ∧ (pageExpires s).lfc = s.lfc ∧ (pageExpires s).lfu = s.lfu ∧ (pageExpires s).cpt = s.cpt
      ∧ (pageExpires s).ssu = s.ssu ∧ (pageExpires s).pending = s.pending ∧ (pageExpires s).lif.rx = s.lif.rx
      ∧ (pageExpires s).lif.lineIdle = s.lif.lineIdle ∧ (pageExpires s).lif.tx = s.lif.tx
      ∧ (pageExpires s).lif.held = s.lif.held ∧ (pageExpires s).lif.txFault = s.lif.txFault
      ∧ (pageExpires s).lif.attemptOpen = s.lif.attemptOpen ∧ (pageExpires s).lif.failures = s.lif.failures
      ∧ (pageExpires s).lif.testSequence = s.lif.testSequence
      ∧ (pageExpires s).lif.duplicateSeen = s.lif.duplicateSeen ∧ (pageExpires s).lif.holdFrom = s.lif.holdFrom
      ∧ (pageExpires s).lif.txFrom = s.lif.txFrom ∧ (pageExpires s).lif.breakFrom = s.lif.breakFrom := by
  unfold pageExpires
  try dsimp only
  (repeat' split) <;> simp

@[simp] theorem pageEntryGone_frame (s : State) :
    (pageEntryGone s).now = s.now ∧ (pageEntryGone s).startedAt = s.startedAt ∧ (pageEntryGone s).lif = s.lif
      ∧ (pageEntryGone s).bdr = s.bdr ∧ (pageEntryGone s).ptu = s.ptu ∧ (pageEntryGone s).rgu = s.rgu
      ∧ (pageEntryGone s).sau = s.sau ∧ (pageEntryGone s).lfc = s.lfc ∧ (pageEntryGone s).lfu = s.lfu
      ∧ (pageEntryGone s).acu = s.acu ∧ (pageEntryGone s).cpt = s.cpt ∧ (pageEntryGone s).ssu = s.ssu
      ∧ (pageEntryGone s).pending = s.pending := by
  unfold pageEntryGone
  try dsimp only
  (repeat' split) <;> simp

@[simp] theorem startPageRequest_frame (scope : PageScope) (s : State) :
    ((startPageRequest scope s).1).now = s.now ∧ ((startPageRequest scope s).1).startedAt = s.startedAt
      ∧ ((startPageRequest scope s).1).bdr = s.bdr ∧ ((startPageRequest scope s).1).ptu = s.ptu
      ∧ ((startPageRequest scope s).1).rgu = s.rgu ∧ ((startPageRequest scope s).1).sau = s.sau
      ∧ ((startPageRequest scope s).1).lfc = s.lfc ∧ ((startPageRequest scope s).1).lfu = s.lfu
      ∧ ((startPageRequest scope s).1).acu = s.acu ∧ ((startPageRequest scope s).1).cpt = s.cpt
      ∧ ((startPageRequest scope s).1).ssu = s.ssu ∧ ((startPageRequest scope s).1).pending = s.pending
      ∧ ((startPageRequest scope s).1).lif.rx = s.lif.rx
      ∧ ((startPageRequest scope s).1).lif.lineIdle = s.lif.lineIdle
      ∧ ((startPageRequest scope s).1).lif.tx = s.lif.tx ∧ ((startPageRequest scope s).1).lif.held = s.lif.held
      ∧ ((startPageRequest scope s).1).lif.txFault = s.lif.txFault
      ∧ ((startPageRequest scope s).1).lif.attemptOpen = s.lif.attemptOpen
      ∧ ((startPageRequest scope s).1).lif.failures = s.lif.failures
      ∧ ((startPageRequest scope s).1).lif.testSequence = s.lif.testSequence
      ∧ ((startPageRequest scope s).1).lif.duplicateSeen = s.lif.duplicateSeen
      ∧ ((startPageRequest scope s).1).lif.holdFrom = s.lif.holdFrom
      ∧ ((startPageRequest scope s).1).lif.txFrom = s.lif.txFrom
      ∧ ((startPageRequest scope s).1).lif.breakFrom = s.lif.breakFrom := by
  unfold startPageRequest
  try dsimp only
  (repeat' split) <;> (try (rename_i h; obtain ⟨rfl, -⟩ := Prod.ext_iff.mp h)) <;> simp

@[simp] theorem stopPageRequest_frame (s : State) :
    ((stopPageRequest s).1).now = s.now ∧ ((stopPageRequest s).1).startedAt = s.startedAt
      ∧ ((stopPageRequest s).1).bdr = s.bdr ∧ ((stopPageRequest s).1).ptu = s.ptu
      ∧ ((stopPageRequest s).1).rgu = s.rgu ∧ ((stopPageRequest s).1).sau = s.sau
      ∧ ((stopPageRequest s).1).lfc = s.lfc ∧ ((stopPageRequest s).1).lfu = s.lfu
      ∧ ((stopPageRequest s).1).acu = s.acu ∧ ((stopPageRequest s).1).cpt = s.cpt
      ∧ ((stopPageRequest s).1).ssu = s.ssu ∧ ((stopPageRequest s).1).pending = s.pending
      ∧ ((stopPageRequest s).1).lif.rx = s.lif.rx ∧ ((stopPageRequest s).1).lif.lineIdle = s.lif.lineIdle
      ∧ ((stopPageRequest s).1).lif.tx = s.lif.tx ∧ ((stopPageRequest s).1).lif.held = s.lif.held
      ∧ ((stopPageRequest s).1).lif.txFault = s.lif.txFault
      ∧ ((stopPageRequest s).1).lif.attemptOpen = s.lif.attemptOpen
      ∧ ((stopPageRequest s).1).lif.failures = s.lif.failures
      ∧ ((stopPageRequest s).1).lif.testSequence = s.lif.testSequence
      ∧ ((stopPageRequest s).1).lif.duplicateSeen = s.lif.duplicateSeen
      ∧ ((stopPageRequest s).1).lif.holdFrom = s.lif.holdFrom ∧ ((stopPageRequest s).1).lif.txFrom = s.lif.txFrom
      ∧ ((stopPageRequest s).1).lif.breakFrom = s.lif.breakFrom := by
  unfold stopPageRequest
  try dsimp only
  (repeat' split) <;> (try (rename_i h; obtain ⟨rfl, -⟩ := Prod.ext_iff.mp h)) <;> simp

@[simp] theorem testRequest_frame (s : State) :
    ((testRequest s).1).now = s.now ∧ ((testRequest s).1).startedAt = s.startedAt ∧ ((testRequest s).1).lif = s.lif
      ∧ ((testRequest s).1).bdr = s.bdr ∧ ((testRequest s).1).ptu = s.ptu ∧ ((testRequest s).1).rgu = s.rgu
      ∧ ((testRequest s).1).sau = s.sau ∧ ((testRequest s).1).lfc = s.lfc ∧ ((testRequest s).1).lfu = s.lfu
      ∧ ((testRequest s).1).cpt = s.cpt ∧ ((testRequest s).1).ssu = s.ssu ∧ ((testRequest s).1).pending = s.pending := by
  unfold testRequest
  try dsimp only
  (repeat' split) <;> simp

@[simp] theorem circuitTaken_frame (n : Circuit) (r : CircuitSense) (s : State) :
    (circuitTaken n r s).now = s.now ∧ (circuitTaken n r s).startedAt = s.startedAt ∧ (circuitTaken n r s).lif = s.lif
      ∧ (circuitTaken n r s).bdr = s.bdr ∧ (circuitTaken n r s).ptu = s.ptu ∧ (circuitTaken n r s).rgu = s.rgu
      ∧ (circuitTaken n r s).sau = s.sau ∧ (circuitTaken n r s).lfc = s.lfc ∧ (circuitTaken n r s).lfu = s.lfu
      ∧ (circuitTaken n r s).acu = s.acu ∧ (circuitTaken n r s).cpt = s.cpt ∧ (circuitTaken n r s).ssu = s.ssu
      ∧ (circuitTaken n r s).pending = s.pending := by
  unfold circuitTaken
  try dsimp only
  (repeat' split) <;> simp

/-! ## The Stair Admission Unit (chapter 5) -/

@[simp] theorem claim_frame (mode : ClaimSort) (s : State) :
    ((claim mode s).1).now = s.now ∧ ((claim mode s).1).startedAt = s.startedAt ∧ ((claim mode s).1).bdr = s.bdr
      ∧ ((claim mode s).1).ptu = s.ptu ∧ ((claim mode s).1).rgu = s.rgu ∧ ((claim mode s).1).lfc = s.lfc
      ∧ ((claim mode s).1).lfu = s.lfu ∧ ((claim mode s).1).acu = s.acu ∧ ((claim mode s).1).pbu = s.pbu
      ∧ ((claim mode s).1).eva = s.eva ∧ ((claim mode s).1).cpt = s.cpt ∧ ((claim mode s).1).ssu = s.ssu
      ∧ ((claim mode s).1).pending = s.pending ∧ ((claim mode s).1).lif.rx = s.lif.rx
      ∧ ((claim mode s).1).lif.lineIdle = s.lif.lineIdle ∧ ((claim mode s).1).lif.tx = s.lif.tx
      ∧ ((claim mode s).1).lif.held = s.lif.held ∧ ((claim mode s).1).lif.txFault = s.lif.txFault
      ∧ ((claim mode s).1).lif.attemptOpen = s.lif.attemptOpen ∧ ((claim mode s).1).lif.failures = s.lif.failures
      ∧ ((claim mode s).1).lif.testSequence = s.lif.testSequence
      ∧ ((claim mode s).1).lif.duplicateSeen = s.lif.duplicateSeen ∧ ((claim mode s).1).lif.holdFrom = s.lif.holdFrom
      ∧ ((claim mode s).1).lif.txFrom = s.lif.txFrom ∧ ((claim mode s).1).lif.breakFrom = s.lif.breakFrom
      ∧ ((claim mode s).1).sau.status = s.sau.status ∧ ((claim mode s).1).sau.smokeOffer = s.sau.smokeOffer
      ∧ ((claim mode s).1).sau.queues = s.sau.queues ∧ ((claim mode s).1).sau.released = s.sau.released
      ∧ ((claim mode s).1).sau.assigned = s.sau.assigned ∧ ((claim mode s).1).sau.drainNext = s.sau.drainNext := by
  unfold claim
  try dsimp only
  (repeat' split) <;> (try (rename_i h; obtain ⟨rfl, -⟩ := Prod.ext_iff.mp h)) <;> simp

@[simp] theorem refreshClaim_frame (mode : ClaimSort) (s : State) :
    (refreshClaim mode s).now = s.now ∧ (refreshClaim mode s).startedAt = s.startedAt
      ∧ (refreshClaim mode s).bdr = s.bdr ∧ (refreshClaim mode s).ptu = s.ptu ∧ (refreshClaim mode s).rgu = s.rgu
      ∧ (refreshClaim mode s).lfc = s.lfc ∧ (refreshClaim mode s).lfu = s.lfu ∧ (refreshClaim mode s).acu = s.acu
      ∧ (refreshClaim mode s).pbu = s.pbu ∧ (refreshClaim mode s).eva = s.eva ∧ (refreshClaim mode s).cpt = s.cpt
      ∧ (refreshClaim mode s).ssu = s.ssu ∧ (refreshClaim mode s).pending = s.pending
      ∧ (refreshClaim mode s).lif.rx = s.lif.rx ∧ (refreshClaim mode s).lif.lineIdle = s.lif.lineIdle
      ∧ (refreshClaim mode s).lif.tx = s.lif.tx ∧ (refreshClaim mode s).lif.held = s.lif.held
      ∧ (refreshClaim mode s).lif.txFault = s.lif.txFault ∧ (refreshClaim mode s).lif.attemptOpen = s.lif.attemptOpen
      ∧ (refreshClaim mode s).lif.failures = s.lif.failures
      ∧ (refreshClaim mode s).lif.testSequence = s.lif.testSequence
      ∧ (refreshClaim mode s).lif.duplicateSeen = s.lif.duplicateSeen
      ∧ (refreshClaim mode s).lif.holdFrom = s.lif.holdFrom ∧ (refreshClaim mode s).lif.txFrom = s.lif.txFrom
      ∧ (refreshClaim mode s).lif.breakFrom = s.lif.breakFrom ∧ (refreshClaim mode s).sau.status = s.sau.status
      ∧ (refreshClaim mode s).sau.smokeOffer = s.sau.smokeOffer ∧ (refreshClaim mode s).sau.queues = s.sau.queues
      ∧ (refreshClaim mode s).sau.released = s.sau.released ∧ (refreshClaim mode s).sau.assigned = s.sau.assigned
      ∧ (refreshClaim mode s).sau.drainNext = s.sau.drainNext := by
  unfold refreshClaim
  try dsimp only
  (repeat' split) <;> simp

@[simp] theorem withdrawClaim_frame (s : State) :
    ((withdrawClaim s).1).now = s.now ∧ ((withdrawClaim s).1).startedAt = s.startedAt
      ∧ ((withdrawClaim s).1).bdr = s.bdr ∧ ((withdrawClaim s).1).ptu = s.ptu ∧ ((withdrawClaim s).1).rgu = s.rgu
      ∧ ((withdrawClaim s).1).lfc = s.lfc ∧ ((withdrawClaim s).1).lfu = s.lfu ∧ ((withdrawClaim s).1).acu = s.acu
      ∧ ((withdrawClaim s).1).pbu = s.pbu ∧ ((withdrawClaim s).1).eva = s.eva ∧ ((withdrawClaim s).1).cpt = s.cpt
      ∧ ((withdrawClaim s).1).ssu = s.ssu ∧ ((withdrawClaim s).1).pending = s.pending
      ∧ ((withdrawClaim s).1).lif.rx = s.lif.rx ∧ ((withdrawClaim s).1).lif.lineIdle = s.lif.lineIdle
      ∧ ((withdrawClaim s).1).lif.tx = s.lif.tx ∧ ((withdrawClaim s).1).lif.held = s.lif.held
      ∧ ((withdrawClaim s).1).lif.txFault = s.lif.txFault ∧ ((withdrawClaim s).1).lif.attemptOpen = s.lif.attemptOpen
      ∧ ((withdrawClaim s).1).lif.failures = s.lif.failures
      ∧ ((withdrawClaim s).1).lif.testSequence = s.lif.testSequence
      ∧ ((withdrawClaim s).1).lif.duplicateSeen = s.lif.duplicateSeen
      ∧ ((withdrawClaim s).1).lif.holdFrom = s.lif.holdFrom ∧ ((withdrawClaim s).1).lif.txFrom = s.lif.txFrom
      ∧ ((withdrawClaim s).1).lif.breakFrom = s.lif.breakFrom ∧ ((withdrawClaim s).1).sau.status = s.sau.status
      ∧ ((withdrawClaim s).1).sau.smokeOffer = s.sau.smokeOffer ∧ ((withdrawClaim s).1).sau.queues = s.sau.queues
      ∧ ((withdrawClaim s).1).sau.released = s.sau.released ∧ ((withdrawClaim s).1).sau.assigned = s.sau.assigned
      ∧ ((withdrawClaim s).1).sau.drainNext = s.sau.drainNext := by
  unfold withdrawClaim
  split
  · simp
  · simp
  · split <;> (obtain ⟨rfl, -⟩ := Prod.ext_iff.mp ‹withdraw .release s = _›) <;> simp

@[simp] theorem dropClaim_frame (s : State) :
    (dropClaim s).now = s.now ∧ (dropClaim s).startedAt = s.startedAt ∧ (dropClaim s).bdr = s.bdr
      ∧ (dropClaim s).ptu = s.ptu ∧ (dropClaim s).rgu = s.rgu ∧ (dropClaim s).lfc = s.lfc ∧ (dropClaim s).lfu = s.lfu
      ∧ (dropClaim s).acu = s.acu ∧ (dropClaim s).pbu = s.pbu ∧ (dropClaim s).eva = s.eva ∧ (dropClaim s).cpt = s.cpt
      ∧ (dropClaim s).ssu = s.ssu ∧ (dropClaim s).pending = s.pending ∧ (dropClaim s).lif.rx = s.lif.rx
      ∧ (dropClaim s).lif.lineIdle = s.lif.lineIdle ∧ (dropClaim s).lif.tx = s.lif.tx
      ∧ (dropClaim s).lif.held = s.lif.held ∧ (dropClaim s).lif.txFault = s.lif.txFault
      ∧ (dropClaim s).lif.attemptOpen = s.lif.attemptOpen ∧ (dropClaim s).lif.failures = s.lif.failures
      ∧ (dropClaim s).lif.testSequence = s.lif.testSequence ∧ (dropClaim s).lif.duplicateSeen = s.lif.duplicateSeen
      ∧ (dropClaim s).lif.holdFrom = s.lif.holdFrom ∧ (dropClaim s).lif.txFrom = s.lif.txFrom
      ∧ (dropClaim s).lif.breakFrom = s.lif.breakFrom ∧ (dropClaim s).sau.status = s.sau.status
      ∧ (dropClaim s).sau.smokeOffer = s.sau.smokeOffer ∧ (dropClaim s).sau.queues = s.sau.queues
      ∧ (dropClaim s).sau.released = s.sau.released ∧ (dropClaim s).sau.assigned = s.sau.assigned
      ∧ (dropClaim s).sau.drainNext = s.sau.drainNext := by
  unfold dropClaim
  try dsimp only
  (repeat' split) <;> simp

@[simp] theorem releaseSent_frame (r : Release) (pending : Bool) (s : State) :
    (releaseSent r pending s).now = s.now ∧ (releaseSent r pending s).startedAt = s.startedAt
      ∧ (releaseSent r pending s).lif = s.lif ∧ (releaseSent r pending s).bdr = s.bdr
      ∧ (releaseSent r pending s).ptu = s.ptu ∧ (releaseSent r pending s).rgu = s.rgu
      ∧ (releaseSent r pending s).lfc = s.lfc ∧ (releaseSent r pending s).lfu = s.lfu
      ∧ (releaseSent r pending s).acu = s.acu ∧ (releaseSent r pending s).pbu = s.pbu
      ∧ (releaseSent r pending s).eva = s.eva ∧ (releaseSent r pending s).cpt = s.cpt
      ∧ (releaseSent r pending s).ssu = s.ssu ∧ (releaseSent r pending s).pending = s.pending
      ∧ (releaseSent r pending s).sau.status = s.sau.status
      ∧ (releaseSent r pending s).sau.smokeOffer = s.sau.smokeOffer
      ∧ (releaseSent r pending s).sau.queues = s.sau.queues ∧ (releaseSent r pending s).sau.released = s.sau.released
      ∧ (releaseSent r pending s).sau.assigned = s.sau.assigned
      ∧ (releaseSent r pending s).sau.drainNext = s.sau.drainNext := by
  unfold releaseSent
  try dsimp only
  (repeat' split) <;> simp

@[simp] theorem releaseGone_frame (r : Release) (s : State) :
    ((releaseGone r s).1).now = s.now ∧ ((releaseGone r s).1).startedAt = s.startedAt
      ∧ ((releaseGone r s).1).lif = s.lif ∧ ((releaseGone r s).1).bdr = s.bdr ∧ ((releaseGone r s).1).ptu = s.ptu
      ∧ ((releaseGone r s).1).rgu = s.rgu ∧ ((releaseGone r s).1).lfc = s.lfc ∧ ((releaseGone r s).1).lfu = s.lfu
      ∧ ((releaseGone r s).1).acu = s.acu ∧ ((releaseGone r s).1).pbu = s.pbu ∧ ((releaseGone r s).1).eva = s.eva
      ∧ ((releaseGone r s).1).cpt = s.cpt ∧ ((releaseGone r s).1).ssu = s.ssu
      ∧ ((releaseGone r s).1).pending = s.pending ∧ ((releaseGone r s).1).sau.status = s.sau.status
      ∧ ((releaseGone r s).1).sau.smokeOffer = s.sau.smokeOffer ∧ ((releaseGone r s).1).sau.queues = s.sau.queues
      ∧ ((releaseGone r s).1).sau.released = s.sau.released ∧ ((releaseGone r s).1).sau.assigned = s.sau.assigned
      ∧ ((releaseGone r s).1).sau.drainNext = s.sau.drainNext := by
  unfold releaseGone
  try dsimp only
  (repeat' split) <;> simp

@[simp] theorem releaseWon_frame (r : Release) (s : State) :
    (releaseWon r s).now = s.now ∧ (releaseWon r s).startedAt = s.startedAt ∧ (releaseWon r s).lif = s.lif
      ∧ (releaseWon r s).bdr = s.bdr ∧ (releaseWon r s).ptu = s.ptu ∧ (releaseWon r s).rgu = s.rgu
      ∧ (releaseWon r s).lfc = s.lfc ∧ (releaseWon r s).lfu = s.lfu ∧ (releaseWon r s).acu = s.acu
      ∧ (releaseWon r s).pbu = s.pbu ∧ (releaseWon r s).eva = s.eva ∧ (releaseWon r s).cpt = s.cpt
      ∧ (releaseWon r s).ssu = s.ssu ∧ (releaseWon r s).pending = s.pending
      ∧ (releaseWon r s).sau.status = s.sau.status ∧ (releaseWon r s).sau.smokeOffer = s.sau.smokeOffer
      ∧ (releaseWon r s).sau.queues = s.sau.queues ∧ (releaseWon r s).sau.released = s.sau.released
      ∧ (releaseWon r s).sau.assigned = s.sau.assigned ∧ (releaseWon r s).sau.drainNext = s.sau.drainNext := by
  unfold releaseWon
  try dsimp only
  (repeat' split) <;> simp

@[simp] theorem stairSent_frame (st : Stair) (pending : Option Content) (s : State) :
    (stairSent st pending s).now = s.now ∧ (stairSent st pending s).startedAt = s.startedAt
      ∧ (stairSent st pending s).lif = s.lif ∧ (stairSent st pending s).bdr = s.bdr
      ∧ (stairSent st pending s).ptu = s.ptu ∧ (stairSent st pending s).rgu = s.rgu
      ∧ (stairSent st pending s).lfc = s.lfc ∧ (stairSent st pending s).lfu = s.lfu
      ∧ (stairSent st pending s).acu = s.acu ∧ (stairSent st pending s).pbu = s.pbu
      ∧ (stairSent st pending s).eva = s.eva ∧ (stairSent st pending s).cpt = s.cpt
      ∧ (stairSent st pending s).ssu = s.ssu ∧ (stairSent st pending s).pending = s.pending
      ∧ (stairSent st pending s).sau.status = s.sau.status ∧ (stairSent st pending s).sau.queues = s.sau.queues
      ∧ (stairSent st pending s).sau.released = s.sau.released
      ∧ (stairSent st pending s).sau.assigned = s.sau.assigned ∧ (stairSent st pending s).sau.claim = s.sau.claim
      ∧ (stairSent st pending s).sau.drainNext = s.sau.drainNext := by
  unfold stairSent
  try dsimp only
  (repeat' split) <;> simp

@[simp] theorem smokeReport_frame (st : Stair) (s : State) :
    (smokeReport st s).now = s.now ∧ (smokeReport st s).startedAt = s.startedAt ∧ (smokeReport st s).bdr = s.bdr
      ∧ (smokeReport st s).ptu = s.ptu ∧ (smokeReport st s).rgu = s.rgu ∧ (smokeReport st s).lfc = s.lfc
      ∧ (smokeReport st s).lfu = s.lfu ∧ (smokeReport st s).acu = s.acu ∧ (smokeReport st s).pbu = s.pbu
      ∧ (smokeReport st s).eva = s.eva ∧ (smokeReport st s).cpt = s.cpt ∧ (smokeReport st s).ssu = s.ssu
      ∧ (smokeReport st s).pending = s.pending ∧ (smokeReport st s).lif.rx = s.lif.rx
      ∧ (smokeReport st s).lif.lineIdle = s.lif.lineIdle ∧ (smokeReport st s).lif.tx = s.lif.tx
      ∧ (smokeReport st s).lif.held = s.lif.held ∧ (smokeReport st s).lif.txFault = s.lif.txFault
      ∧ (smokeReport st s).lif.attemptOpen = s.lif.attemptOpen ∧ (smokeReport st s).lif.failures = s.lif.failures
      ∧ (smokeReport st s).lif.testSequence = s.lif.testSequence
      ∧ (smokeReport st s).lif.duplicateSeen = s.lif.duplicateSeen ∧ (smokeReport st s).lif.holdFrom = s.lif.holdFrom
      ∧ (smokeReport st s).lif.txFrom = s.lif.txFrom ∧ (smokeReport st s).lif.breakFrom = s.lif.breakFrom
      ∧ (smokeReport st s).sau.status = s.sau.status ∧ (smokeReport st s).sau.queues = s.sau.queues
      ∧ (smokeReport st s).sau.released = s.sau.released ∧ (smokeReport st s).sau.assigned = s.sau.assigned
      ∧ (smokeReport st s).sau.claim = s.sau.claim ∧ (smokeReport st s).sau.drainNext = s.sau.drainNext := by
  unfold smokeReport
  try dsimp only
  (repeat' split) <;> (try (rename_i h; obtain ⟨rfl, -⟩ := Prod.ext_iff.mp h)) <;> simp

@[simp] theorem stairHeard_frame (st : Stair) (status : StairStatus) (s : State) :
    (stairHeard st status s).now = s.now ∧ (stairHeard st status s).startedAt = s.startedAt
      ∧ (stairHeard st status s).lif = s.lif ∧ (stairHeard st status s).bdr = s.bdr
      ∧ (stairHeard st status s).ptu = s.ptu ∧ (stairHeard st status s).rgu = s.rgu
      ∧ (stairHeard st status s).lfc = s.lfc ∧ (stairHeard st status s).lfu = s.lfu
      ∧ (stairHeard st status s).acu = s.acu ∧ (stairHeard st status s).pbu = s.pbu
      ∧ (stairHeard st status s).eva = s.eva ∧ (stairHeard st status s).cpt = s.cpt
      ∧ (stairHeard st status s).ssu = s.ssu ∧ (stairHeard st status s).pending = s.pending
      ∧ (stairHeard st status s).sau.smokeOffer = s.sau.smokeOffer
      ∧ (stairHeard st status s).sau.queues = s.sau.queues ∧ (stairHeard st status s).sau.released = s.sau.released
      ∧ (stairHeard st status s).sau.assigned = s.sau.assigned ∧ (stairHeard st status s).sau.claim = s.sau.claim
      ∧ (stairHeard st status s).sau.drainNext = s.sau.drainNext := by
  unfold stairHeard logStair
  split <;> simp

@[simp] theorem releaseHeard_frame (r : Release) (s : State) :
    (releaseHeard r s).now = s.now ∧ (releaseHeard r s).startedAt = s.startedAt ∧ (releaseHeard r s).lif = s.lif
      ∧ (releaseHeard r s).bdr = s.bdr ∧ (releaseHeard r s).ptu = s.ptu ∧ (releaseHeard r s).rgu = s.rgu
      ∧ (releaseHeard r s).lfc = s.lfc ∧ (releaseHeard r s).lfu = s.lfu ∧ (releaseHeard r s).acu = s.acu
      ∧ (releaseHeard r s).pbu = s.pbu ∧ (releaseHeard r s).eva = s.eva ∧ (releaseHeard r s).cpt = s.cpt
      ∧ (releaseHeard r s).ssu = s.ssu ∧ (releaseHeard r s).pending = s.pending
      ∧ (releaseHeard r s).sau.status = s.sau.status ∧ (releaseHeard r s).sau.smokeOffer = s.sau.smokeOffer
      ∧ (releaseHeard r s).sau.claim = s.sau.claim ∧ (releaseHeard r s).sau.drainNext = s.sau.drainNext := by
  unfold releaseHeard
  try dsimp only
  (repeat' split) <;> simp

@[simp] theorem drainAll_frame (s : State) :
    (drainAll s).now = s.now ∧ (drainAll s).startedAt = s.startedAt ∧ (drainAll s).lif = s.lif
      ∧ (drainAll s).bdr = s.bdr ∧ (drainAll s).ptu = s.ptu ∧ (drainAll s).rgu = s.rgu ∧ (drainAll s).lfc = s.lfc
      ∧ (drainAll s).lfu = s.lfu ∧ (drainAll s).acu = s.acu ∧ (drainAll s).pbu = s.pbu ∧ (drainAll s).eva = s.eva
      ∧ (drainAll s).cpt = s.cpt ∧ (drainAll s).ssu = s.ssu ∧ (drainAll s).pending = s.pending
      ∧ (drainAll s).sau.status = s.sau.status ∧ (drainAll s).sau.smokeOffer = s.sau.smokeOffer
      ∧ (drainAll s).sau.released = s.sau.released ∧ (drainAll s).sau.assigned = s.sau.assigned
      ∧ (drainAll s).sau.claim = s.sau.claim ∧ (drainAll s).sau.drainNext = s.sau.drainNext := by
  simp [drainAll]

@[simp] theorem newEpoch_frame (s : State) :
    (newEpoch s).now = s.now ∧ (newEpoch s).startedAt = s.startedAt ∧ (newEpoch s).lif = s.lif
      ∧ (newEpoch s).bdr = s.bdr ∧ (newEpoch s).ptu = s.ptu ∧ (newEpoch s).rgu = s.rgu ∧ (newEpoch s).lfc = s.lfc
      ∧ (newEpoch s).lfu = s.lfu ∧ (newEpoch s).acu = s.acu ∧ (newEpoch s).pbu = s.pbu ∧ (newEpoch s).eva = s.eva
      ∧ (newEpoch s).cpt = s.cpt ∧ (newEpoch s).ssu = s.ssu ∧ (newEpoch s).pending = s.pending
      ∧ (newEpoch s).sau.smokeOffer = s.sau.smokeOffer ∧ (newEpoch s).sau.drainNext = s.sau.drainNext := by
  simp [newEpoch]

@[simp] theorem takeView_frame (r : StatusReport) (s : State) :
    (takeView r s).now = s.now ∧ (takeView r s).startedAt = s.startedAt ∧ (takeView r s).lif = s.lif
      ∧ (takeView r s).bdr = s.bdr ∧ (takeView r s).ptu = s.ptu ∧ (takeView r s).rgu = s.rgu
      ∧ (takeView r s).lfc = s.lfc ∧ (takeView r s).lfu = s.lfu ∧ (takeView r s).acu = s.acu
      ∧ (takeView r s).pbu = s.pbu ∧ (takeView r s).eva = s.eva ∧ (takeView r s).cpt = s.cpt
      ∧ (takeView r s).ssu = s.ssu ∧ (takeView r s).pending = s.pending
      ∧ (takeView r s).sau.smokeOffer = s.sau.smokeOffer ∧ (takeView r s).sau.claim = s.sau.claim
      ∧ (takeView r s).sau.drainNext = s.sau.drainNext := by
  unfold takeView
  try dsimp only
  (repeat' split) <;> simp

@[simp] theorem withdrawOldRelease_frame (s : State) :
    (withdrawOldRelease s).now = s.now ∧ (withdrawOldRelease s).startedAt = s.startedAt
      ∧ (withdrawOldRelease s).bdr = s.bdr ∧ (withdrawOldRelease s).ptu = s.ptu ∧ (withdrawOldRelease s).rgu = s.rgu
      ∧ (withdrawOldRelease s).lfc = s.lfc ∧ (withdrawOldRelease s).lfu = s.lfu ∧ (withdrawOldRelease s).acu = s.acu
      ∧ (withdrawOldRelease s).pbu = s.pbu ∧ (withdrawOldRelease s).eva = s.eva ∧ (withdrawOldRelease s).cpt = s.cpt
      ∧ (withdrawOldRelease s).ssu = s.ssu ∧ (withdrawOldRelease s).pending = s.pending
      ∧ (withdrawOldRelease s).lif.rx = s.lif.rx ∧ (withdrawOldRelease s).lif.lineIdle = s.lif.lineIdle
      ∧ (withdrawOldRelease s).lif.tx = s.lif.tx ∧ (withdrawOldRelease s).lif.held = s.lif.held
      ∧ (withdrawOldRelease s).lif.txFault = s.lif.txFault
      ∧ (withdrawOldRelease s).lif.attemptOpen = s.lif.attemptOpen
      ∧ (withdrawOldRelease s).lif.failures = s.lif.failures
      ∧ (withdrawOldRelease s).lif.testSequence = s.lif.testSequence
      ∧ (withdrawOldRelease s).lif.duplicateSeen = s.lif.duplicateSeen
      ∧ (withdrawOldRelease s).lif.holdFrom = s.lif.holdFrom ∧ (withdrawOldRelease s).lif.txFrom = s.lif.txFrom
      ∧ (withdrawOldRelease s).lif.breakFrom = s.lif.breakFrom ∧ (withdrawOldRelease s).sau.status = s.sau.status
      ∧ (withdrawOldRelease s).sau.smokeOffer = s.sau.smokeOffer ∧ (withdrawOldRelease s).sau.queues = s.sau.queues
      ∧ (withdrawOldRelease s).sau.released = s.sau.released ∧ (withdrawOldRelease s).sau.assigned = s.sau.assigned
      ∧ (withdrawOldRelease s).sau.drainNext = s.sau.drainNext := by
  unfold withdrawOldRelease
  try dsimp only
  (repeat' split) <;> (try (rename_i h; obtain ⟨rfl, -⟩ := Prod.ext_iff.mp h)) <;> simp

@[simp] theorem withdrawOldStair_frame (st : Stair) (s : State) :
    (withdrawOldStair st s).now = s.now ∧ (withdrawOldStair st s).startedAt = s.startedAt
      ∧ (withdrawOldStair st s).bdr = s.bdr ∧ (withdrawOldStair st s).ptu = s.ptu
      ∧ (withdrawOldStair st s).rgu = s.rgu ∧ (withdrawOldStair st s).lfc = s.lfc
      ∧ (withdrawOldStair st s).lfu = s.lfu ∧ (withdrawOldStair st s).acu = s.acu
      ∧ (withdrawOldStair st s).pbu = s.pbu ∧ (withdrawOldStair st s).eva = s.eva
      ∧ (withdrawOldStair st s).cpt = s.cpt ∧ (withdrawOldStair st s).ssu = s.ssu
      ∧ (withdrawOldStair st s).pending = s.pending ∧ (withdrawOldStair st s).lif.rx = s.lif.rx
      ∧ (withdrawOldStair st s).lif.lineIdle = s.lif.lineIdle ∧ (withdrawOldStair st s).lif.tx = s.lif.tx
      ∧ (withdrawOldStair st s).lif.held = s.lif.held ∧ (withdrawOldStair st s).lif.txFault = s.lif.txFault
      ∧ (withdrawOldStair st s).lif.attemptOpen = s.lif.attemptOpen
      ∧ (withdrawOldStair st s).lif.failures = s.lif.failures
      ∧ (withdrawOldStair st s).lif.testSequence = s.lif.testSequence
      ∧ (withdrawOldStair st s).lif.duplicateSeen = s.lif.duplicateSeen
      ∧ (withdrawOldStair st s).lif.holdFrom = s.lif.holdFrom ∧ (withdrawOldStair st s).lif.txFrom = s.lif.txFrom
      ∧ (withdrawOldStair st s).lif.breakFrom = s.lif.breakFrom ∧ (withdrawOldStair st s).sau.status = s.sau.status
      ∧ (withdrawOldStair st s).sau.queues = s.sau.queues ∧ (withdrawOldStair st s).sau.released = s.sau.released
      ∧ (withdrawOldStair st s).sau.assigned = s.sau.assigned ∧ (withdrawOldStair st s).sau.claim = s.sau.claim
      ∧ (withdrawOldStair st s).sau.drainNext = s.sau.drainNext := by
  unfold withdrawOldStair
  try dsimp only
  (repeat' split) <;> simp

@[simp] theorem withdrawOldWork_frame (s : State) :
    (withdrawOldWork s).now = s.now ∧ (withdrawOldWork s).startedAt = s.startedAt ∧ (withdrawOldWork s).bdr = s.bdr
      ∧ (withdrawOldWork s).ptu = s.ptu ∧ (withdrawOldWork s).rgu = s.rgu ∧ (withdrawOldWork s).lfc = s.lfc
      ∧ (withdrawOldWork s).lfu = s.lfu ∧ (withdrawOldWork s).acu = s.acu ∧ (withdrawOldWork s).pbu = s.pbu
      ∧ (withdrawOldWork s).eva = s.eva ∧ (withdrawOldWork s).cpt = s.cpt ∧ (withdrawOldWork s).ssu = s.ssu
      ∧ (withdrawOldWork s).pending = s.pending ∧ (withdrawOldWork s).lif.rx = s.lif.rx
      ∧ (withdrawOldWork s).lif.lineIdle = s.lif.lineIdle ∧ (withdrawOldWork s).lif.tx = s.lif.tx
      ∧ (withdrawOldWork s).lif.held = s.lif.held ∧ (withdrawOldWork s).lif.txFault = s.lif.txFault
      ∧ (withdrawOldWork s).lif.attemptOpen = s.lif.attemptOpen ∧ (withdrawOldWork s).lif.failures = s.lif.failures
      ∧ (withdrawOldWork s).lif.testSequence = s.lif.testSequence
      ∧ (withdrawOldWork s).lif.duplicateSeen = s.lif.duplicateSeen
      ∧ (withdrawOldWork s).lif.holdFrom = s.lif.holdFrom ∧ (withdrawOldWork s).lif.txFrom = s.lif.txFrom
      ∧ (withdrawOldWork s).lif.breakFrom = s.lif.breakFrom ∧ (withdrawOldWork s).sau.status = s.sau.status
      ∧ (withdrawOldWork s).sau.queues = s.sau.queues ∧ (withdrawOldWork s).sau.released = s.sau.released
      ∧ (withdrawOldWork s).sau.assigned = s.sau.assigned ∧ (withdrawOldWork s).sau.drainNext = s.sau.drainNext := by
  unfold withdrawOldWork
  have h := withdrawOldRelease_frame s
  generalize withdrawOldRelease s = t at h ⊢
  simp only [← h]
  clear h
  generalize List.finRange _ = l
  induction l generalizing t with
  | nil => simp
  | cons a l ih => simp [ih]

/-! ## The Regime Unit (chapter 4) -/

@[simp] theorem endSilence_frame (s : State) :
    (endSilence s).now = s.now ∧ (endSilence s).startedAt = s.startedAt ∧ (endSilence s).lif = s.lif
      ∧ (endSilence s).bdr = s.bdr ∧ (endSilence s).ptu = s.ptu ∧ (endSilence s).sau = s.sau
      ∧ (endSilence s).lfc = s.lfc ∧ (endSilence s).lfu = s.lfu ∧ (endSilence s).acu = s.acu
      ∧ (endSilence s).pbu = s.pbu ∧ (endSilence s).cpt = s.cpt ∧ (endSilence s).ssu = s.ssu
      ∧ (endSilence s).pending = s.pending ∧ (endSilence s).rgu.own = s.rgu.own
      ∧ (endSilence s).rgu.stored = s.rgu.stored ∧ (endSilence s).rgu.map = s.rgu.map
      ∧ (endSilence s).rgu.phase = s.rgu.phase ∧ (endSilence s).rgu.mode = s.rgu.mode
      ∧ (endSilence s).rgu.epoch = s.rgu.epoch := by
  unfold endSilence
  try dsimp only
  (repeat' split) <;> simp

@[simp] theorem clearSilence_frame (s : State) :
    (clearSilence s).now = s.now ∧ (clearSilence s).startedAt = s.startedAt ∧ (clearSilence s).lif = s.lif
      ∧ (clearSilence s).bdr = s.bdr ∧ (clearSilence s).ptu = s.ptu ∧ (clearSilence s).sau = s.sau
      ∧ (clearSilence s).lfc = s.lfc ∧ (clearSilence s).lfu = s.lfu ∧ (clearSilence s).cpt = s.cpt
      ∧ (clearSilence s).ssu = s.ssu ∧ (clearSilence s).pending = s.pending ∧ (clearSilence s).rgu.own = s.rgu.own
      ∧ (clearSilence s).rgu.stored = s.rgu.stored ∧ (clearSilence s).rgu.map = s.rgu.map
      ∧ (clearSilence s).rgu.phase = s.rgu.phase ∧ (clearSilence s).rgu.mode = s.rgu.mode
      ∧ (clearSilence s).rgu.epoch = s.rgu.epoch := by
  unfold clearSilence
  try dsimp only
  (repeat' split) <;> simp

@[simp] theorem silenceHeard_frame (s : State) :
    (silenceHeard s).now = s.now ∧ (silenceHeard s).startedAt = s.startedAt ∧ (silenceHeard s).lif = s.lif
      ∧ (silenceHeard s).bdr = s.bdr ∧ (silenceHeard s).ptu = s.ptu ∧ (silenceHeard s).sau = s.sau
      ∧ (silenceHeard s).lfc = s.lfc ∧ (silenceHeard s).lfu = s.lfu ∧ (silenceHeard s).cpt = s.cpt
      ∧ (silenceHeard s).ssu = s.ssu ∧ (silenceHeard s).pending = s.pending ∧ (silenceHeard s).rgu.own = s.rgu.own
      ∧ (silenceHeard s).rgu.stored = s.rgu.stored ∧ (silenceHeard s).rgu.map = s.rgu.map
      ∧ (silenceHeard s).rgu.phase = s.rgu.phase ∧ (silenceHeard s).rgu.mode = s.rgu.mode
      ∧ (silenceHeard s).rgu.epoch = s.rgu.epoch := by
  unfold silenceHeard
  try dsimp only
  (repeat' split) <;> simp

@[simp] theorem deriveMap_frame (gather : Bool) (s : State) :
    (deriveMap gather s).now = s.now ∧ (deriveMap gather s).startedAt = s.startedAt ∧ (deriveMap gather s).lif = s.lif
      ∧ (deriveMap gather s).bdr = s.bdr ∧ (deriveMap gather s).ptu = s.ptu ∧ (deriveMap gather s).sau = s.sau
      ∧ (deriveMap gather s).lfc = s.lfc ∧ (deriveMap gather s).cpt = s.cpt ∧ (deriveMap gather s).ssu = s.ssu
      ∧ (deriveMap gather s).pending = s.pending ∧ (deriveMap gather s).rgu.own = s.rgu.own
      ∧ (deriveMap gather s).rgu.stored = s.rgu.stored ∧ (deriveMap gather s).rgu.phase = s.rgu.phase
      ∧ (deriveMap gather s).rgu.mode = s.rgu.mode ∧ (deriveMap gather s).rgu.epoch = s.rgu.epoch := by
  unfold deriveMap
  try dsimp only
  (repeat' split) <;> simp

@[simp] theorem makeClaim_frame (sort : ClaimSort) (s : State) :
    (makeClaim sort s).now = s.now ∧ (makeClaim sort s).startedAt = s.startedAt ∧ (makeClaim sort s).bdr = s.bdr
      ∧ (makeClaim sort s).ptu = s.ptu ∧ (makeClaim sort s).lfc = s.lfc ∧ (makeClaim sort s).lfu = s.lfu
      ∧ (makeClaim sort s).acu = s.acu ∧ (makeClaim sort s).pbu = s.pbu ∧ (makeClaim sort s).eva = s.eva
      ∧ (makeClaim sort s).cpt = s.cpt ∧ (makeClaim sort s).ssu = s.ssu ∧ (makeClaim sort s).pending = s.pending
      ∧ (makeClaim sort s).lif.rx = s.lif.rx ∧ (makeClaim sort s).lif.lineIdle = s.lif.lineIdle
      ∧ (makeClaim sort s).lif.tx = s.lif.tx ∧ (makeClaim sort s).lif.held = s.lif.held
      ∧ (makeClaim sort s).lif.txFault = s.lif.txFault ∧ (makeClaim sort s).lif.attemptOpen = s.lif.attemptOpen
      ∧ (makeClaim sort s).lif.failures = s.lif.failures ∧ (makeClaim sort s).lif.testSequence = s.lif.testSequence
      ∧ (makeClaim sort s).lif.duplicateSeen = s.lif.duplicateSeen ∧ (makeClaim sort s).lif.holdFrom = s.lif.holdFrom
      ∧ (makeClaim sort s).lif.txFrom = s.lif.txFrom ∧ (makeClaim sort s).lif.breakFrom = s.lif.breakFrom
      ∧ (makeClaim sort s).sau.status = s.sau.status ∧ (makeClaim sort s).sau.smokeOffer = s.sau.smokeOffer
      ∧ (makeClaim sort s).sau.queues = s.sau.queues ∧ (makeClaim sort s).sau.released = s.sau.released
      ∧ (makeClaim sort s).sau.assigned = s.sau.assigned ∧ (makeClaim sort s).sau.drainNext = s.sau.drainNext
      ∧ (makeClaim sort s).rgu.own = s.rgu.own ∧ (makeClaim sort s).rgu.stored = s.rgu.stored
      ∧ (makeClaim sort s).rgu.map = s.rgu.map ∧ (makeClaim sort s).rgu.epoch = s.rgu.epoch
      ∧ (makeClaim sort s).rgu.silence = s.rgu.silence := by
  unfold makeClaim
  try dsimp only
  (repeat' split) <;> (try (rename_i h; obtain ⟨rfl, -⟩ := Prod.ext_iff.mp h)) <;> simp

@[simp] theorem enterPhase_frame (f : Floor) (s : State) :
    (enterPhase f s).now = s.now ∧ (enterPhase f s).startedAt = s.startedAt ∧ (enterPhase f s).bdr = s.bdr
      ∧ (enterPhase f s).ptu = s.ptu ∧ (enterPhase f s).lfc = s.lfc ∧ (enterPhase f s).lfu = s.lfu
      ∧ (enterPhase f s).acu = s.acu ∧ (enterPhase f s).pbu = s.pbu ∧ (enterPhase f s).eva = s.eva
      ∧ (enterPhase f s).cpt = s.cpt ∧ (enterPhase f s).ssu = s.ssu ∧ (enterPhase f s).pending = s.pending
      ∧ (enterPhase f s).lif.rx = s.lif.rx ∧ (enterPhase f s).lif.lineIdle = s.lif.lineIdle
      ∧ (enterPhase f s).lif.tx = s.lif.tx ∧ (enterPhase f s).lif.held = s.lif.held
      ∧ (enterPhase f s).lif.txFault = s.lif.txFault ∧ (enterPhase f s).lif.attemptOpen = s.lif.attemptOpen
      ∧ (enterPhase f s).lif.failures = s.lif.failures ∧ (enterPhase f s).lif.testSequence = s.lif.testSequence
      ∧ (enterPhase f s).lif.duplicateSeen = s.lif.duplicateSeen ∧ (enterPhase f s).lif.holdFrom = s.lif.holdFrom
      ∧ (enterPhase f s).lif.txFrom = s.lif.txFrom ∧ (enterPhase f s).lif.breakFrom = s.lif.breakFrom
      ∧ (enterPhase f s).sau.status = s.sau.status ∧ (enterPhase f s).sau.smokeOffer = s.sau.smokeOffer
      ∧ (enterPhase f s).sau.queues = s.sau.queues ∧ (enterPhase f s).sau.released = s.sau.released
      ∧ (enterPhase f s).sau.assigned = s.sau.assigned ∧ (enterPhase f s).sau.drainNext = s.sau.drainNext
      ∧ (enterPhase f s).rgu.own = s.rgu.own ∧ (enterPhase f s).rgu.stored = s.rgu.stored
      ∧ (enterPhase f s).rgu.map = s.rgu.map ∧ (enterPhase f s).rgu.epoch = s.rgu.epoch
      ∧ (enterPhase f s).rgu.silence = s.rgu.silence := by
  unfold enterPhase
  try dsimp only
  (repeat' split) <;> simp

@[simp] theorem leaveClaim_frame (next : Phase) (s : State) :
    (leaveClaim next s).now = s.now ∧ (leaveClaim next s).startedAt = s.startedAt ∧ (leaveClaim next s).bdr = s.bdr
      ∧ (leaveClaim next s).ptu = s.ptu ∧ (leaveClaim next s).lfc = s.lfc ∧ (leaveClaim next s).lfu = s.lfu
      ∧ (leaveClaim next s).acu = s.acu ∧ (leaveClaim next s).pbu = s.pbu ∧ (leaveClaim next s).eva = s.eva
      ∧ (leaveClaim next s).cpt = s.cpt ∧ (leaveClaim next s).ssu = s.ssu ∧ (leaveClaim next s).pending = s.pending
      ∧ (leaveClaim next s).lif.rx = s.lif.rx ∧ (leaveClaim next s).lif.lineIdle = s.lif.lineIdle
      ∧ (leaveClaim next s).lif.tx = s.lif.tx ∧ (leaveClaim next s).lif.held = s.lif.held
      ∧ (leaveClaim next s).lif.txFault = s.lif.txFault ∧ (leaveClaim next s).lif.attemptOpen = s.lif.attemptOpen
      ∧ (leaveClaim next s).lif.failures = s.lif.failures ∧ (leaveClaim next s).lif.testSequence = s.lif.testSequence
      ∧ (leaveClaim next s).lif.duplicateSeen = s.lif.duplicateSeen
      ∧ (leaveClaim next s).lif.holdFrom = s.lif.holdFrom ∧ (leaveClaim next s).lif.txFrom = s.lif.txFrom
      ∧ (leaveClaim next s).lif.breakFrom = s.lif.breakFrom ∧ (leaveClaim next s).sau.status = s.sau.status
      ∧ (leaveClaim next s).sau.smokeOffer = s.sau.smokeOffer ∧ (leaveClaim next s).sau.queues = s.sau.queues
      ∧ (leaveClaim next s).sau.released = s.sau.released ∧ (leaveClaim next s).sau.assigned = s.sau.assigned
      ∧ (leaveClaim next s).sau.drainNext = s.sau.drainNext ∧ (leaveClaim next s).rgu.own = s.rgu.own
      ∧ (leaveClaim next s).rgu.stored = s.rgu.stored ∧ (leaveClaim next s).rgu.map = s.rgu.map
      ∧ (leaveClaim next s).rgu.epoch = s.rgu.epoch ∧ (leaveClaim next s).rgu.silence = s.rgu.silence := by
  unfold leaveClaim
  try dsimp only
  (repeat' split) <;> (try (rename_i h; obtain ⟨rfl, -⟩ := Prod.ext_iff.mp h)) <;> simp

@[simp] theorem recheckClaim_frame (f : Floor) (s : State) :
    (recheckClaim f s).now = s.now ∧ (recheckClaim f s).startedAt = s.startedAt ∧ (recheckClaim f s).bdr = s.bdr
      ∧ (recheckClaim f s).ptu = s.ptu ∧ (recheckClaim f s).lfc = s.lfc ∧ (recheckClaim f s).lfu = s.lfu
      ∧ (recheckClaim f s).acu = s.acu ∧ (recheckClaim f s).pbu = s.pbu ∧ (recheckClaim f s).eva = s.eva
      ∧ (recheckClaim f s).cpt = s.cpt ∧ (recheckClaim f s).ssu = s.ssu ∧ (recheckClaim f s).pending = s.pending
      ∧ (recheckClaim f s).lif.rx = s.lif.rx ∧ (recheckClaim f s).lif.lineIdle = s.lif.lineIdle
      ∧ (recheckClaim f s).lif.tx = s.lif.tx ∧ (recheckClaim f s).lif.held = s.lif.held
      ∧ (recheckClaim f s).lif.txFault = s.lif.txFault ∧ (recheckClaim f s).lif.attemptOpen = s.lif.attemptOpen
      ∧ (recheckClaim f s).lif.failures = s.lif.failures ∧ (recheckClaim f s).lif.testSequence = s.lif.testSequence
      ∧ (recheckClaim f s).lif.duplicateSeen = s.lif.duplicateSeen ∧ (recheckClaim f s).lif.holdFrom = s.lif.holdFrom
      ∧ (recheckClaim f s).lif.txFrom = s.lif.txFrom ∧ (recheckClaim f s).lif.breakFrom = s.lif.breakFrom
      ∧ (recheckClaim f s).sau.status = s.sau.status ∧ (recheckClaim f s).sau.smokeOffer = s.sau.smokeOffer
      ∧ (recheckClaim f s).sau.queues = s.sau.queues ∧ (recheckClaim f s).sau.released = s.sau.released
      ∧ (recheckClaim f s).sau.assigned = s.sau.assigned ∧ (recheckClaim f s).sau.drainNext = s.sau.drainNext
      ∧ (recheckClaim f s).rgu.own = s.rgu.own ∧ (recheckClaim f s).rgu.stored = s.rgu.stored
      ∧ (recheckClaim f s).rgu.map = s.rgu.map ∧ (recheckClaim f s).rgu.epoch = s.rgu.epoch
      ∧ (recheckClaim f s).rgu.silence = s.rgu.silence := by
  unfold recheckClaim
  try dsimp only
  (repeat' split) <;> simp

@[simp] theorem unconfiguredClaim_frame (s : State) :
    (unconfiguredClaim s).now = s.now ∧ (unconfiguredClaim s).startedAt = s.startedAt
      ∧ (unconfiguredClaim s).bdr = s.bdr ∧ (unconfiguredClaim s).ptu = s.ptu ∧ (unconfiguredClaim s).rgu = s.rgu
      ∧ (unconfiguredClaim s).lfc = s.lfc ∧ (unconfiguredClaim s).lfu = s.lfu ∧ (unconfiguredClaim s).acu = s.acu
      ∧ (unconfiguredClaim s).pbu = s.pbu ∧ (unconfiguredClaim s).eva = s.eva ∧ (unconfiguredClaim s).cpt = s.cpt
      ∧ (unconfiguredClaim s).ssu = s.ssu ∧ (unconfiguredClaim s).pending = s.pending
      ∧ (unconfiguredClaim s).lif.rx = s.lif.rx ∧ (unconfiguredClaim s).lif.lineIdle = s.lif.lineIdle
      ∧ (unconfiguredClaim s).lif.tx = s.lif.tx ∧ (unconfiguredClaim s).lif.held = s.lif.held
      ∧ (unconfiguredClaim s).lif.txFault = s.lif.txFault ∧ (unconfiguredClaim s).lif.attemptOpen = s.lif.attemptOpen
      ∧ (unconfiguredClaim s).lif.failures = s.lif.failures
      ∧ (unconfiguredClaim s).lif.testSequence = s.lif.testSequence
      ∧ (unconfiguredClaim s).lif.duplicateSeen = s.lif.duplicateSeen
      ∧ (unconfiguredClaim s).lif.holdFrom = s.lif.holdFrom ∧ (unconfiguredClaim s).lif.txFrom = s.lif.txFrom
      ∧ (unconfiguredClaim s).lif.breakFrom = s.lif.breakFrom ∧ (unconfiguredClaim s).sau.status = s.sau.status
      ∧ (unconfiguredClaim s).sau.smokeOffer = s.sau.smokeOffer ∧ (unconfiguredClaim s).sau.queues = s.sau.queues
      ∧ (unconfiguredClaim s).sau.released = s.sau.released ∧ (unconfiguredClaim s).sau.assigned = s.sau.assigned
      ∧ (unconfiguredClaim s).sau.drainNext = s.sau.drainNext := by
  unfold unconfiguredClaim
  try dsimp only
  (repeat' split) <;> simp

@[simp] theorem evaluateFloorless_frame (s : State) :
    (evaluateFloorless s).now = s.now ∧ (evaluateFloorless s).startedAt = s.startedAt
      ∧ (evaluateFloorless s).bdr = s.bdr ∧ (evaluateFloorless s).ptu = s.ptu ∧ (evaluateFloorless s).lfc = s.lfc
      ∧ (evaluateFloorless s).lfu = s.lfu ∧ (evaluateFloorless s).acu = s.acu ∧ (evaluateFloorless s).pbu = s.pbu
      ∧ (evaluateFloorless s).eva = s.eva ∧ (evaluateFloorless s).cpt = s.cpt ∧ (evaluateFloorless s).ssu = s.ssu
      ∧ (evaluateFloorless s).pending = s.pending ∧ (evaluateFloorless s).lif.rx = s.lif.rx
      ∧ (evaluateFloorless s).lif.lineIdle = s.lif.lineIdle ∧ (evaluateFloorless s).lif.tx = s.lif.tx
      ∧ (evaluateFloorless s).lif.held = s.lif.held ∧ (evaluateFloorless s).lif.txFault = s.lif.txFault
      ∧ (evaluateFloorless s).lif.attemptOpen = s.lif.attemptOpen
      ∧ (evaluateFloorless s).lif.failures = s.lif.failures
      ∧ (evaluateFloorless s).lif.testSequence = s.lif.testSequence
      ∧ (evaluateFloorless s).lif.duplicateSeen = s.lif.duplicateSeen
      ∧ (evaluateFloorless s).lif.holdFrom = s.lif.holdFrom ∧ (evaluateFloorless s).lif.txFrom = s.lif.txFrom
      ∧ (evaluateFloorless s).lif.breakFrom = s.lif.breakFrom ∧ (evaluateFloorless s).sau.status = s.sau.status
      ∧ (evaluateFloorless s).sau.smokeOffer = s.sau.smokeOffer ∧ (evaluateFloorless s).sau.queues = s.sau.queues
      ∧ (evaluateFloorless s).sau.released = s.sau.released ∧ (evaluateFloorless s).sau.assigned = s.sau.assigned
      ∧ (evaluateFloorless s).sau.drainNext = s.sau.drainNext ∧ (evaluateFloorless s).rgu.own = s.rgu.own
      ∧ (evaluateFloorless s).rgu.stored = s.rgu.stored ∧ (evaluateFloorless s).rgu.map = s.rgu.map
      ∧ (evaluateFloorless s).rgu.epoch = s.rgu.epoch ∧ (evaluateFloorless s).rgu.silence = s.rgu.silence := by
  unfold evaluateFloorless
  try dsimp only
  (repeat' split) <;> simp

@[simp] theorem evaluatePhase_frame (s : State) :
    (evaluatePhase s).now = s.now ∧ (evaluatePhase s).startedAt = s.startedAt ∧ (evaluatePhase s).bdr = s.bdr
      ∧ (evaluatePhase s).ptu = s.ptu ∧ (evaluatePhase s).lfc = s.lfc ∧ (evaluatePhase s).lfu = s.lfu
      ∧ (evaluatePhase s).acu = s.acu ∧ (evaluatePhase s).pbu = s.pbu ∧ (evaluatePhase s).eva = s.eva
      ∧ (evaluatePhase s).cpt = s.cpt ∧ (evaluatePhase s).ssu = s.ssu ∧ (evaluatePhase s).pending = s.pending
      ∧ (evaluatePhase s).lif.rx = s.lif.rx ∧ (evaluatePhase s).lif.lineIdle = s.lif.lineIdle
      ∧ (evaluatePhase s).lif.tx = s.lif.tx ∧ (evaluatePhase s).lif.held = s.lif.held
      ∧ (evaluatePhase s).lif.txFault = s.lif.txFault ∧ (evaluatePhase s).lif.attemptOpen = s.lif.attemptOpen
      ∧ (evaluatePhase s).lif.failures = s.lif.failures ∧ (evaluatePhase s).lif.testSequence = s.lif.testSequence
      ∧ (evaluatePhase s).lif.duplicateSeen = s.lif.duplicateSeen ∧ (evaluatePhase s).lif.holdFrom = s.lif.holdFrom
      ∧ (evaluatePhase s).lif.txFrom = s.lif.txFrom ∧ (evaluatePhase s).lif.breakFrom = s.lif.breakFrom
      ∧ (evaluatePhase s).sau.status = s.sau.status ∧ (evaluatePhase s).sau.smokeOffer = s.sau.smokeOffer
      ∧ (evaluatePhase s).sau.queues = s.sau.queues ∧ (evaluatePhase s).sau.released = s.sau.released
      ∧ (evaluatePhase s).sau.assigned = s.sau.assigned ∧ (evaluatePhase s).sau.drainNext = s.sau.drainNext
      ∧ (evaluatePhase s).rgu.own = s.rgu.own ∧ (evaluatePhase s).rgu.stored = s.rgu.stored
      ∧ (evaluatePhase s).rgu.map = s.rgu.map ∧ (evaluatePhase s).rgu.epoch = s.rgu.epoch
      ∧ (evaluatePhase s).rgu.silence = s.rgu.silence := by
  unfold evaluatePhase
  try dsimp only
  (repeat' split) <;> simp

@[simp] theorem phaseNotice_frame (before : Phase) (s : State) :
    (phaseNotice before s).now = s.now ∧ (phaseNotice before s).startedAt = s.startedAt
      ∧ (phaseNotice before s).lif = s.lif ∧ (phaseNotice before s).bdr = s.bdr ∧ (phaseNotice before s).ptu = s.ptu
      ∧ (phaseNotice before s).rgu = s.rgu ∧ (phaseNotice before s).sau = s.sau ∧ (phaseNotice before s).lfu = s.lfu
      ∧ (phaseNotice before s).cpt = s.cpt ∧ (phaseNotice before s).ssu = s.ssu
      ∧ (phaseNotice before s).pending = s.pending ∧ (phaseNotice before s).lfc.unlockAll = s.lfc.unlockAll := by
  unfold phaseNotice
  try dsimp only
  (repeat' split) <;> simp

@[simp] theorem evaluate_frame (s : State) :
    (evaluate s).now = s.now ∧ (evaluate s).startedAt = s.startedAt ∧ (evaluate s).bdr = s.bdr
      ∧ (evaluate s).ptu = s.ptu ∧ (evaluate s).lfu = s.lfu ∧ (evaluate s).cpt = s.cpt ∧ (evaluate s).ssu = s.ssu
      ∧ (evaluate s).pending = s.pending ∧ (evaluate s).lif.rx = s.lif.rx ∧ (evaluate s).lif.lineIdle = s.lif.lineIdle
      ∧ (evaluate s).lif.tx = s.lif.tx ∧ (evaluate s).lif.held = s.lif.held ∧ (evaluate s).lif.txFault = s.lif.txFault
      ∧ (evaluate s).lif.attemptOpen = s.lif.attemptOpen ∧ (evaluate s).lif.failures = s.lif.failures
      ∧ (evaluate s).lif.testSequence = s.lif.testSequence ∧ (evaluate s).lif.duplicateSeen = s.lif.duplicateSeen
      ∧ (evaluate s).lif.holdFrom = s.lif.holdFrom ∧ (evaluate s).lif.txFrom = s.lif.txFrom
      ∧ (evaluate s).lif.breakFrom = s.lif.breakFrom ∧ (evaluate s).sau.status = s.sau.status
      ∧ (evaluate s).sau.smokeOffer = s.sau.smokeOffer ∧ (evaluate s).sau.queues = s.sau.queues
      ∧ (evaluate s).sau.released = s.sau.released ∧ (evaluate s).sau.assigned = s.sau.assigned
      ∧ (evaluate s).sau.drainNext = s.sau.drainNext ∧ (evaluate s).rgu.own = s.rgu.own
      ∧ (evaluate s).rgu.stored = s.rgu.stored ∧ (evaluate s).rgu.map = s.rgu.map
      ∧ (evaluate s).rgu.epoch = s.rgu.epoch ∧ (evaluate s).rgu.silence = s.rgu.silence
      ∧ (evaluate s).lfc.unlockAll = s.lfc.unlockAll := by
  simp [evaluate]

@[simp] theorem claimGone_frame (s : State) :
    (claimGone s).now = s.now ∧ (claimGone s).startedAt = s.startedAt ∧ (claimGone s).bdr = s.bdr
      ∧ (claimGone s).ptu = s.ptu ∧ (claimGone s).lfu = s.lfu ∧ (claimGone s).cpt = s.cpt ∧ (claimGone s).ssu = s.ssu
      ∧ (claimGone s).pending = s.pending ∧ (claimGone s).lif.rx = s.lif.rx
      ∧ (claimGone s).lif.lineIdle = s.lif.lineIdle ∧ (claimGone s).lif.tx = s.lif.tx
      ∧ (claimGone s).lif.held = s.lif.held ∧ (claimGone s).lif.txFault = s.lif.txFault
      ∧ (claimGone s).lif.attemptOpen = s.lif.attemptOpen ∧ (claimGone s).lif.failures = s.lif.failures
      ∧ (claimGone s).lif.testSequence = s.lif.testSequence ∧ (claimGone s).lif.duplicateSeen = s.lif.duplicateSeen
      ∧ (claimGone s).lif.holdFrom = s.lif.holdFrom ∧ (claimGone s).lif.txFrom = s.lif.txFrom
      ∧ (claimGone s).lif.breakFrom = s.lif.breakFrom ∧ (claimGone s).sau.status = s.sau.status
      ∧ (claimGone s).sau.smokeOffer = s.sau.smokeOffer ∧ (claimGone s).sau.queues = s.sau.queues
      ∧ (claimGone s).sau.released = s.sau.released ∧ (claimGone s).sau.assigned = s.sau.assigned
      ∧ (claimGone s).sau.drainNext = s.sau.drainNext ∧ (claimGone s).rgu.own = s.rgu.own
      ∧ (claimGone s).rgu.stored = s.rgu.stored ∧ (claimGone s).rgu.map = s.rgu.map
      ∧ (claimGone s).rgu.epoch = s.rgu.epoch ∧ (claimGone s).rgu.silence = s.rgu.silence
      ∧ (claimGone s).lfc.unlockAll = s.lfc.unlockAll := by
  unfold claimGone
  try dsimp only
  (repeat' split) <;> simp

@[simp] theorem addOwn_frame (e : Entry) (s : State) :
    ((addOwn e s).1).now = s.now ∧ ((addOwn e s).1).startedAt = s.startedAt ∧ ((addOwn e s).1).bdr = s.bdr
      ∧ ((addOwn e s).1).ptu = s.ptu ∧ ((addOwn e s).1).sau = s.sau ∧ ((addOwn e s).1).lfc = s.lfc
      ∧ ((addOwn e s).1).lfu = s.lfu ∧ ((addOwn e s).1).acu = s.acu ∧ ((addOwn e s).1).pbu = s.pbu
      ∧ ((addOwn e s).1).eva = s.eva ∧ ((addOwn e s).1).cpt = s.cpt ∧ ((addOwn e s).1).ssu = s.ssu
      ∧ ((addOwn e s).1).pending = s.pending ∧ ((addOwn e s).1).lif.rx = s.lif.rx
      ∧ ((addOwn e s).1).lif.lineIdle = s.lif.lineIdle ∧ ((addOwn e s).1).lif.tx = s.lif.tx
      ∧ ((addOwn e s).1).lif.held = s.lif.held ∧ ((addOwn e s).1).lif.txFault = s.lif.txFault
      ∧ ((addOwn e s).1).lif.attemptOpen = s.lif.attemptOpen ∧ ((addOwn e s).1).lif.failures = s.lif.failures
      ∧ ((addOwn e s).1).lif.testSequence = s.lif.testSequence
      ∧ ((addOwn e s).1).lif.duplicateSeen = s.lif.duplicateSeen ∧ ((addOwn e s).1).lif.holdFrom = s.lif.holdFrom
      ∧ ((addOwn e s).1).lif.txFrom = s.lif.txFrom ∧ ((addOwn e s).1).lif.breakFrom = s.lif.breakFrom
      ∧ ((addOwn e s).1).rgu.stored = s.rgu.stored ∧ ((addOwn e s).1).rgu.map = s.rgu.map
      ∧ ((addOwn e s).1).rgu.phase = s.rgu.phase ∧ ((addOwn e s).1).rgu.mode = s.rgu.mode
      ∧ ((addOwn e s).1).rgu.epoch = s.rgu.epoch ∧ ((addOwn e s).1).rgu.silence = s.rgu.silence := by
  unfold addOwn
  try dsimp only
  (repeat' split) <;> simp

@[simp] theorem ownSetChanged_frame (s : State) :
    (ownSetChanged s).now = s.now ∧ (ownSetChanged s).startedAt = s.startedAt ∧ (ownSetChanged s).bdr = s.bdr
      ∧ (ownSetChanged s).ptu = s.ptu ∧ (ownSetChanged s).cpt = s.cpt ∧ (ownSetChanged s).ssu = s.ssu
      ∧ (ownSetChanged s).pending = s.pending ∧ (ownSetChanged s).lif.rx = s.lif.rx
      ∧ (ownSetChanged s).lif.lineIdle = s.lif.lineIdle ∧ (ownSetChanged s).lif.tx = s.lif.tx
      ∧ (ownSetChanged s).lif.held = s.lif.held ∧ (ownSetChanged s).lif.txFault = s.lif.txFault
      ∧ (ownSetChanged s).lif.attemptOpen = s.lif.attemptOpen ∧ (ownSetChanged s).lif.failures = s.lif.failures
      ∧ (ownSetChanged s).lif.testSequence = s.lif.testSequence
      ∧ (ownSetChanged s).lif.duplicateSeen = s.lif.duplicateSeen ∧ (ownSetChanged s).lif.holdFrom = s.lif.holdFrom
      ∧ (ownSetChanged s).lif.txFrom = s.lif.txFrom ∧ (ownSetChanged s).lif.breakFrom = s.lif.breakFrom
      ∧ (ownSetChanged s).sau.status = s.sau.status ∧ (ownSetChanged s).sau.smokeOffer = s.sau.smokeOffer
      ∧ (ownSetChanged s).sau.queues = s.sau.queues ∧ (ownSetChanged s).sau.released = s.sau.released
      ∧ (ownSetChanged s).sau.assigned = s.sau.assigned ∧ (ownSetChanged s).sau.drainNext = s.sau.drainNext
      ∧ (ownSetChanged s).rgu.own = s.rgu.own ∧ (ownSetChanged s).rgu.stored = s.rgu.stored
      ∧ (ownSetChanged s).rgu.epoch = s.rgu.epoch ∧ (ownSetChanged s).lfc.unlockAll = s.lfc.unlockAll := by
  simp [ownSetChanged]

@[simp] theorem storeSet_frame (gather : Bool) (n : Sender) (l : List Entry) (s : State) :
    (storeSet gather n l s).now = s.now ∧ (storeSet gather n l s).startedAt = s.startedAt
      ∧ (storeSet gather n l s).lif = s.lif ∧ (storeSet gather n l s).bdr = s.bdr
      ∧ (storeSet gather n l s).ptu = s.ptu ∧ (storeSet gather n l s).sau = s.sau
      ∧ (storeSet gather n l s).lfc = s.lfc ∧ (storeSet gather n l s).cpt = s.cpt
      ∧ (storeSet gather n l s).ssu = s.ssu ∧ (storeSet gather n l s).pending = s.pending
      ∧ (storeSet gather n l s).rgu.own = s.rgu.own ∧ (storeSet gather n l s).rgu.phase = s.rgu.phase
      ∧ (storeSet gather n l s).rgu.mode = s.rgu.mode ∧ (storeSet gather n l s).rgu.epoch = s.rgu.epoch := by
  simp [storeSet]

/-! ## The Point Unit (chapter 3) -/

@[simp] theorem offerFire_frame (p : Point) (e : Entry) (s : State) :
    (offerFire p e s).now = s.now ∧ (offerFire p e s).startedAt = s.startedAt ∧ (offerFire p e s).bdr = s.bdr
      ∧ (offerFire p e s).sau = s.sau ∧ (offerFire p e s).lfc = s.lfc ∧ (offerFire p e s).lfu = s.lfu
      ∧ (offerFire p e s).acu = s.acu ∧ (offerFire p e s).pbu = s.pbu ∧ (offerFire p e s).cpt = s.cpt
      ∧ (offerFire p e s).ssu = s.ssu ∧ (offerFire p e s).pending = s.pending ∧ (offerFire p e s).lif.rx = s.lif.rx
      ∧ (offerFire p e s).lif.lineIdle = s.lif.lineIdle ∧ (offerFire p e s).lif.tx = s.lif.tx
      ∧ (offerFire p e s).lif.held = s.lif.held ∧ (offerFire p e s).lif.txFault = s.lif.txFault
      ∧ (offerFire p e s).lif.attemptOpen = s.lif.attemptOpen ∧ (offerFire p e s).lif.failures = s.lif.failures
      ∧ (offerFire p e s).lif.testSequence = s.lif.testSequence
      ∧ (offerFire p e s).lif.duplicateSeen = s.lif.duplicateSeen ∧ (offerFire p e s).lif.holdFrom = s.lif.holdFrom
      ∧ (offerFire p e s).lif.txFrom = s.lif.txFrom ∧ (offerFire p e s).lif.breakFrom = s.lif.breakFrom
      ∧ (offerFire p e s).rgu.stored = s.rgu.stored ∧ (offerFire p e s).rgu.map = s.rgu.map
      ∧ (offerFire p e s).rgu.phase = s.rgu.phase ∧ (offerFire p e s).rgu.mode = s.rgu.mode
      ∧ (offerFire p e s).rgu.epoch = s.rgu.epoch ∧ (offerFire p e s).rgu.silence = s.rgu.silence
      ∧ (offerFire p e s).ptu.cuts = s.ptu.cuts := by
  unfold offerFire
  try dsimp only
  (repeat' split) <;> (try (rename_i h; obtain ⟨rfl, -⟩ := Prod.ext_iff.mp h)) <;> simp

@[simp] theorem offerSmoke_frame (p : Point) (st : Stair) (s : State) :
    (offerSmoke p st s).now = s.now ∧ (offerSmoke p st s).startedAt = s.startedAt ∧ (offerSmoke p st s).bdr = s.bdr
      ∧ (offerSmoke p st s).lfc = s.lfc ∧ (offerSmoke p st s).lfu = s.lfu ∧ (offerSmoke p st s).acu = s.acu
      ∧ (offerSmoke p st s).pbu = s.pbu ∧ (offerSmoke p st s).cpt = s.cpt ∧ (offerSmoke p st s).ssu = s.ssu
      ∧ (offerSmoke p st s).pending = s.pending ∧ (offerSmoke p st s).lif.rx = s.lif.rx
      ∧ (offerSmoke p st s).lif.lineIdle = s.lif.lineIdle ∧ (offerSmoke p st s).lif.tx = s.lif.tx
      ∧ (offerSmoke p st s).lif.held = s.lif.held ∧ (offerSmoke p st s).lif.txFault = s.lif.txFault
      ∧ (offerSmoke p st s).lif.attemptOpen = s.lif.attemptOpen ∧ (offerSmoke p st s).lif.failures = s.lif.failures
      ∧ (offerSmoke p st s).lif.testSequence = s.lif.testSequence
      ∧ (offerSmoke p st s).lif.duplicateSeen = s.lif.duplicateSeen
      ∧ (offerSmoke p st s).lif.holdFrom = s.lif.holdFrom ∧ (offerSmoke p st s).lif.txFrom = s.lif.txFrom
      ∧ (offerSmoke p st s).lif.breakFrom = s.lif.breakFrom ∧ (offerSmoke p st s).rgu.stored = s.rgu.stored
      ∧ (offerSmoke p st s).rgu.map = s.rgu.map ∧ (offerSmoke p st s).rgu.phase = s.rgu.phase
      ∧ (offerSmoke p st s).rgu.mode = s.rgu.mode ∧ (offerSmoke p st s).rgu.epoch = s.rgu.epoch
      ∧ (offerSmoke p st s).rgu.silence = s.rgu.silence ∧ (offerSmoke p st s).ptu.cuts = s.ptu.cuts
      ∧ (offerSmoke p st s).sau.status = s.sau.status ∧ (offerSmoke p st s).sau.queues = s.sau.queues
      ∧ (offerSmoke p st s).sau.released = s.sau.released ∧ (offerSmoke p st s).sau.assigned = s.sau.assigned
      ∧ (offerSmoke p st s).sau.claim = s.sau.claim ∧ (offerSmoke p st s).sau.drainNext = s.sau.drainNext := by
  simp [offerSmoke]

@[simp] theorem offerPoint_frame (p : Point) (s : State) :
    (offerPoint p s).now = s.now ∧ (offerPoint p s).startedAt = s.startedAt ∧ (offerPoint p s).bdr = s.bdr
      ∧ (offerPoint p s).lfc = s.lfc ∧ (offerPoint p s).lfu = s.lfu ∧ (offerPoint p s).acu = s.acu
      ∧ (offerPoint p s).pbu = s.pbu ∧ (offerPoint p s).cpt = s.cpt ∧ (offerPoint p s).ssu = s.ssu
      ∧ (offerPoint p s).pending = s.pending ∧ (offerPoint p s).lif.rx = s.lif.rx
      ∧ (offerPoint p s).lif.lineIdle = s.lif.lineIdle ∧ (offerPoint p s).lif.tx = s.lif.tx
      ∧ (offerPoint p s).lif.held = s.lif.held ∧ (offerPoint p s).lif.txFault = s.lif.txFault
      ∧ (offerPoint p s).lif.attemptOpen = s.lif.attemptOpen ∧ (offerPoint p s).lif.failures = s.lif.failures
      ∧ (offerPoint p s).lif.testSequence = s.lif.testSequence
      ∧ (offerPoint p s).lif.duplicateSeen = s.lif.duplicateSeen ∧ (offerPoint p s).lif.holdFrom = s.lif.holdFrom
      ∧ (offerPoint p s).lif.txFrom = s.lif.txFrom ∧ (offerPoint p s).lif.breakFrom = s.lif.breakFrom
      ∧ (offerPoint p s).rgu.stored = s.rgu.stored ∧ (offerPoint p s).rgu.map = s.rgu.map
      ∧ (offerPoint p s).rgu.phase = s.rgu.phase ∧ (offerPoint p s).rgu.mode = s.rgu.mode
      ∧ (offerPoint p s).rgu.epoch = s.rgu.epoch ∧ (offerPoint p s).rgu.silence = s.rgu.silence
      ∧ (offerPoint p s).ptu.cuts = s.ptu.cuts ∧ (offerPoint p s).sau.status = s.sau.status
      ∧ (offerPoint p s).sau.queues = s.sau.queues ∧ (offerPoint p s).sau.released = s.sau.released
      ∧ (offerPoint p s).sau.assigned = s.sau.assigned ∧ (offerPoint p s).sau.claim = s.sau.claim
      ∧ (offerPoint p s).sau.drainNext = s.sau.drainNext := by
  unfold offerPoint
  try dsimp only
  (repeat' split) <;> simp

@[simp] theorem preAlarm_frame (p : Point) (g : Group) (s : State) :
    (preAlarm p g s).now = s.now ∧ (preAlarm p g s).startedAt = s.startedAt ∧ (preAlarm p g s).lif = s.lif
      ∧ (preAlarm p g s).bdr = s.bdr ∧ (preAlarm p g s).rgu = s.rgu ∧ (preAlarm p g s).sau = s.sau
      ∧ (preAlarm p g s).lfc = s.lfc ∧ (preAlarm p g s).lfu = s.lfu ∧ (preAlarm p g s).acu = s.acu
      ∧ (preAlarm p g s).pbu = s.pbu ∧ (preAlarm p g s).cpt = s.cpt ∧ (preAlarm p g s).ssu = s.ssu
      ∧ (preAlarm p g s).pending = s.pending := by
  unfold preAlarm
  try dsimp only
  (repeat' split) <;> simp

@[simp] theorem cancelVerification_frame (p : Point) (s : State) :
    (cancelVerification p s).now = s.now ∧ (cancelVerification p s).startedAt = s.startedAt
      ∧ (cancelVerification p s).lif = s.lif ∧ (cancelVerification p s).bdr = s.bdr
      ∧ (cancelVerification p s).rgu = s.rgu ∧ (cancelVerification p s).sau = s.sau
      ∧ (cancelVerification p s).lfc = s.lfc ∧ (cancelVerification p s).lfu = s.lfu
      ∧ (cancelVerification p s).acu = s.acu ∧ (cancelVerification p s).pbu = s.pbu
      ∧ (cancelVerification p s).cpt = s.cpt ∧ (cancelVerification p s).ssu = s.ssu
      ∧ (cancelVerification p s).pending = s.pending ∧ (cancelVerification p s).ptu.cuts = s.ptu.cuts := by
  unfold cancelVerification
  try dsimp only
  (repeat' split) <;> simp

@[simp] theorem detectorActive_frame (p : Point) (g : Group) (s : State) :
    (detectorActive p g s).now = s.now ∧ (detectorActive p g s).startedAt = s.startedAt
      ∧ (detectorActive p g s).bdr = s.bdr ∧ (detectorActive p g s).lfc = s.lfc ∧ (detectorActive p g s).lfu = s.lfu
      ∧ (detectorActive p g s).acu = s.acu ∧ (detectorActive p g s).pbu = s.pbu ∧ (detectorActive p g s).cpt = s.cpt
      ∧ (detectorActive p g s).ssu = s.ssu ∧ (detectorActive p g s).pending = s.pending
      ∧ (detectorActive p g s).lif.rx = s.lif.rx ∧ (detectorActive p g s).lif.lineIdle = s.lif.lineIdle
      ∧ (detectorActive p g s).lif.tx = s.lif.tx ∧ (detectorActive p g s).lif.held = s.lif.held
      ∧ (detectorActive p g s).lif.txFault = s.lif.txFault
      ∧ (detectorActive p g s).lif.attemptOpen = s.lif.attemptOpen
      ∧ (detectorActive p g s).lif.failures = s.lif.failures
      ∧ (detectorActive p g s).lif.testSequence = s.lif.testSequence
      ∧ (detectorActive p g s).lif.duplicateSeen = s.lif.duplicateSeen
      ∧ (detectorActive p g s).lif.holdFrom = s.lif.holdFrom ∧ (detectorActive p g s).lif.txFrom = s.lif.txFrom
      ∧ (detectorActive p g s).lif.breakFrom = s.lif.breakFrom ∧ (detectorActive p g s).rgu.stored = s.rgu.stored
      ∧ (detectorActive p g s).rgu.map = s.rgu.map ∧ (detectorActive p g s).rgu.phase = s.rgu.phase
      ∧ (detectorActive p g s).rgu.mode = s.rgu.mode ∧ (detectorActive p g s).rgu.epoch = s.rgu.epoch
      ∧ (detectorActive p g s).rgu.silence = s.rgu.silence ∧ (detectorActive p g s).sau.status = s.sau.status
      ∧ (detectorActive p g s).sau.queues = s.sau.queues ∧ (detectorActive p g s).sau.released = s.sau.released
      ∧ (detectorActive p g s).sau.assigned = s.sau.assigned ∧ (detectorActive p g s).sau.claim = s.sau.claim
      ∧ (detectorActive p g s).sau.drainNext = s.sau.drainNext := by
  unfold detectorActive
  try dsimp only
  (repeat' split) <;> simp

@[simp] theorem endCut_frame (g : Group) (t : Time) (s : State) :
    (endCut g t s).now = s.now ∧ (endCut g t s).startedAt = s.startedAt ∧ (endCut g t s).lif = s.lif
      ∧ (endCut g t s).bdr = s.bdr ∧ (endCut g t s).rgu = s.rgu ∧ (endCut g t s).sau = s.sau
      ∧ (endCut g t s).lfc = s.lfc ∧ (endCut g t s).lfu = s.lfu ∧ (endCut g t s).acu = s.acu
      ∧ (endCut g t s).pbu = s.pbu ∧ (endCut g t s).eva = s.eva ∧ (endCut g t s).cpt = s.cpt
      ∧ (endCut g t s).ssu = s.ssu ∧ (endCut g t s).pending = s.pending := by
  simp [endCut]

@[simp] theorem cutEnds_frame (g : Group) (s : State) :
    (cutEnds g s).now = s.now ∧ (cutEnds g s).startedAt = s.startedAt ∧ (cutEnds g s).lif = s.lif
      ∧ (cutEnds g s).bdr = s.bdr ∧ (cutEnds g s).rgu = s.rgu ∧ (cutEnds g s).sau = s.sau ∧ (cutEnds g s).lfc = s.lfc
      ∧ (cutEnds g s).lfu = s.lfu ∧ (cutEnds g s).acu = s.acu ∧ (cutEnds g s).pbu = s.pbu ∧ (cutEnds g s).eva = s.eva
      ∧ (cutEnds g s).cpt = s.cpt ∧ (cutEnds g s).ssu = s.ssu ∧ (cutEnds g s).pending = s.pending := by
  unfold cutEnds
  try dsimp only
  (repeat' split) <;> simp

@[simp] theorem windowEnds_frame (p : Point) (s : State) :
    (windowEnds p s).now = s.now ∧ (windowEnds p s).startedAt = s.startedAt ∧ (windowEnds p s).lif = s.lif
      ∧ (windowEnds p s).bdr = s.bdr ∧ (windowEnds p s).rgu = s.rgu ∧ (windowEnds p s).sau = s.sau
      ∧ (windowEnds p s).lfc = s.lfc ∧ (windowEnds p s).lfu = s.lfu ∧ (windowEnds p s).acu = s.acu
      ∧ (windowEnds p s).pbu = s.pbu ∧ (windowEnds p s).cpt = s.cpt ∧ (windowEnds p s).ssu = s.ssu
      ∧ (windowEnds p s).pending = s.pending ∧ (windowEnds p s).ptu.cuts = s.ptu.cuts := by
  unfold windowEnds
  try dsimp only
  (repeat' split) <;> simp

@[simp] theorem deriveSupply_frame (s : State) :
    (deriveSupply s).now = s.now ∧ (deriveSupply s).startedAt = s.startedAt ∧ (deriveSupply s).lif = s.lif
      ∧ (deriveSupply s).bdr = s.bdr ∧ (deriveSupply s).ptu = s.ptu ∧ (deriveSupply s).rgu = s.rgu
      ∧ (deriveSupply s).sau = s.sau ∧ (deriveSupply s).lfu = s.lfu ∧ (deriveSupply s).cpt = s.cpt
      ∧ (deriveSupply s).pending = s.pending ∧ (deriveSupply s).lfc.unlockAll = s.lfc.unlockAll
      ∧ (deriveSupply s).ssu.join = s.ssu.join ∧ (deriveSupply s).ssu.stage = s.ssu.stage
      ∧ (deriveSupply s).ssu.station = s.ssu.station ∧ (deriveSupply s).ssu.mainsFailed = s.ssu.mainsFailed
      ∧ (deriveSupply s).ssu.batteryLow = s.ssu.batteryLow ∧ (deriveSupply s).ssu.expiries = s.ssu.expiries
      ∧ (deriveSupply s).ssu.config = s.ssu.config := by
  unfold deriveSupply
  try dsimp only
  (repeat' split) <;> simp

@[simp] theorem passPoint_frame (p : Point) (s : State) :
    (passPoint p s).now = s.now ∧ (passPoint p s).startedAt = s.startedAt ∧ (passPoint p s).lif = s.lif
      ∧ (passPoint p s).bdr = s.bdr ∧ (passPoint p s).ptu = s.ptu ∧ (passPoint p s).rgu = s.rgu
      ∧ (passPoint p s).sau = s.sau ∧ (passPoint p s).pending = s.pending
      ∧ (passPoint p s).lfc.unlockAll = s.lfc.unlockAll ∧ (passPoint p s).ssu.join = s.ssu.join
      ∧ (passPoint p s).ssu.stage = s.ssu.stage ∧ (passPoint p s).ssu.station = s.ssu.station
      ∧ (passPoint p s).ssu.expiries = s.ssu.expiries ∧ (passPoint p s).ssu.config = s.ssu.config
      ∧ (passPoint p s).cpt.rx = s.cpt.rx ∧ (passPoint p s).cpt.inHand = s.cpt.inHand
      ∧ (passPoint p s).cpt.delegation = s.cpt.delegation ∧ (passPoint p s).cpt.dropped = s.cpt.dropped
      ∧ (passPoint p s).cpt.commands = s.cpt.commands ∧ (passPoint p s).cpt.errors = s.cpt.errors := by
  unfold passPoint
  dsimp only
  (repeat' split) <;> (try unfold passCar) <;> (repeat' split) <;> simp

@[simp] theorem followLogical_frame (p : Point) (s : State) :
    (followLogical p s).now = s.now ∧ (followLogical p s).startedAt = s.startedAt ∧ (followLogical p s).lif = s.lif
      ∧ (followLogical p s).bdr = s.bdr ∧ (followLogical p s).rgu = s.rgu ∧ (followLogical p s).sau = s.sau
      ∧ (followLogical p s).lfc = s.lfc ∧ (followLogical p s).lfu = s.lfu ∧ (followLogical p s).acu = s.acu
      ∧ (followLogical p s).pbu = s.pbu ∧ (followLogical p s).eva = s.eva ∧ (followLogical p s).cpt = s.cpt
      ∧ (followLogical p s).ssu = s.ssu ∧ (followLogical p s).pending = s.pending
      ∧ (followLogical p s).ptu.cuts = s.ptu.cuts := by
  unfold followLogical
  try dsimp only
  (repeat' split) <;> simp

@[simp] theorem reportBank_frame (b : Bank) (s : State) :
    (reportBank b s).now = s.now ∧ (reportBank b s).startedAt = s.startedAt ∧ (reportBank b s).lif = s.lif
      ∧ (reportBank b s).bdr = s.bdr ∧ (reportBank b s).ptu = s.ptu ∧ (reportBank b s).rgu = s.rgu
      ∧ (reportBank b s).sau = s.sau ∧ (reportBank b s).lfc = s.lfc ∧ (reportBank b s).acu = s.acu
      ∧ (reportBank b s).pbu = s.pbu ∧ (reportBank b s).eva = s.eva ∧ (reportBank b s).cpt = s.cpt
      ∧ (reportBank b s).ssu = s.ssu ∧ (reportBank b s).pending = s.pending := by
  unfold reportBank
  try dsimp only
  (repeat' split) <;> simp

@[simp] theorem reportBanks_frame (s : State) :
    (reportBanks s).now = s.now ∧ (reportBanks s).startedAt = s.startedAt ∧ (reportBanks s).lif = s.lif
      ∧ (reportBanks s).bdr = s.bdr ∧ (reportBanks s).ptu = s.ptu ∧ (reportBanks s).rgu = s.rgu
      ∧ (reportBanks s).sau = s.sau ∧ (reportBanks s).lfc = s.lfc ∧ (reportBanks s).acu = s.acu
      ∧ (reportBanks s).pbu = s.pbu ∧ (reportBanks s).eva = s.eva ∧ (reportBanks s).cpt = s.cpt
      ∧ (reportBanks s).ssu = s.ssu ∧ (reportBanks s).pending = s.pending := by
  simp [reportBanks, eachBank, List.finRange_succ]

@[simp] theorem lookUp_frame (p : Point) (code : List Nat) (s : State) :
    (lookUp p code s).now = s.now ∧ (lookUp p code s).startedAt = s.startedAt ∧ (lookUp p code s).bdr = s.bdr
      ∧ (lookUp p code s).sau = s.sau ∧ (lookUp p code s).lfc = s.lfc ∧ (lookUp p code s).lfu = s.lfu
      ∧ (lookUp p code s).acu = s.acu ∧ (lookUp p code s).pbu = s.pbu ∧ (lookUp p code s).cpt = s.cpt
      ∧ (lookUp p code s).ssu = s.ssu ∧ (lookUp p code s).pending = s.pending ∧ (lookUp p code s).lif.rx = s.lif.rx
      ∧ (lookUp p code s).lif.lineIdle = s.lif.lineIdle ∧ (lookUp p code s).lif.tx = s.lif.tx
      ∧ (lookUp p code s).lif.held = s.lif.held ∧ (lookUp p code s).lif.txFault = s.lif.txFault
      ∧ (lookUp p code s).lif.attemptOpen = s.lif.attemptOpen ∧ (lookUp p code s).lif.failures = s.lif.failures
      ∧ (lookUp p code s).lif.testSequence = s.lif.testSequence
      ∧ (lookUp p code s).lif.duplicateSeen = s.lif.duplicateSeen ∧ (lookUp p code s).lif.holdFrom = s.lif.holdFrom
      ∧ (lookUp p code s).lif.txFrom = s.lif.txFrom ∧ (lookUp p code s).lif.breakFrom = s.lif.breakFrom
      ∧ (lookUp p code s).rgu.stored = s.rgu.stored ∧ (lookUp p code s).rgu.map = s.rgu.map
      ∧ (lookUp p code s).rgu.phase = s.rgu.phase ∧ (lookUp p code s).rgu.mode = s.rgu.mode
      ∧ (lookUp p code s).rgu.epoch = s.rgu.epoch ∧ (lookUp p code s).rgu.silence = s.rgu.silence
      ∧ (lookUp p code s).ptu.cuts = s.ptu.cuts := by
  unfold lookUp
  try dsimp only
  (repeat' split) <;> simp

@[simp] theorem closeRound_frame (p : Point) (s : State) :
    (closeRound p s).now = s.now ∧ (closeRound p s).startedAt = s.startedAt ∧ (closeRound p s).bdr = s.bdr
      ∧ (closeRound p s).sau = s.sau ∧ (closeRound p s).lfc = s.lfc ∧ (closeRound p s).lfu = s.lfu
      ∧ (closeRound p s).acu = s.acu ∧ (closeRound p s).pbu = s.pbu ∧ (closeRound p s).cpt = s.cpt
      ∧ (closeRound p s).ssu = s.ssu ∧ (closeRound p s).pending = s.pending ∧ (closeRound p s).lif.rx = s.lif.rx
      ∧ (closeRound p s).lif.lineIdle = s.lif.lineIdle ∧ (closeRound p s).lif.tx = s.lif.tx
      ∧ (closeRound p s).lif.held = s.lif.held ∧ (closeRound p s).lif.txFault = s.lif.txFault
      ∧ (closeRound p s).lif.attemptOpen = s.lif.attemptOpen ∧ (closeRound p s).lif.failures = s.lif.failures
      ∧ (closeRound p s).lif.testSequence = s.lif.testSequence
      ∧ (closeRound p s).lif.duplicateSeen = s.lif.duplicateSeen ∧ (closeRound p s).lif.holdFrom = s.lif.holdFrom
      ∧ (closeRound p s).lif.txFrom = s.lif.txFrom ∧ (closeRound p s).lif.breakFrom = s.lif.breakFrom
      ∧ (closeRound p s).rgu.stored = s.rgu.stored ∧ (closeRound p s).rgu.map = s.rgu.map
      ∧ (closeRound p s).rgu.phase = s.rgu.phase ∧ (closeRound p s).rgu.mode = s.rgu.mode
      ∧ (closeRound p s).rgu.epoch = s.rgu.epoch ∧ (closeRound p s).rgu.silence = s.rgu.silence
      ∧ (closeRound p s).ptu.cuts = s.ptu.cuts := by
  unfold closeRound
  try dsimp only
  (repeat' split) <;> simp

@[simp] theorem decoderCatchUp_frame (p : Point) (s : State) :
    (decoderCatchUp p s).now = s.now ∧ (decoderCatchUp p s).startedAt = s.startedAt ∧ (decoderCatchUp p s).bdr = s.bdr
      ∧ (decoderCatchUp p s).sau = s.sau ∧ (decoderCatchUp p s).lfc = s.lfc ∧ (decoderCatchUp p s).lfu = s.lfu
      ∧ (decoderCatchUp p s).acu = s.acu ∧ (decoderCatchUp p s).pbu = s.pbu ∧ (decoderCatchUp p s).cpt = s.cpt
      ∧ (decoderCatchUp p s).ssu = s.ssu ∧ (decoderCatchUp p s).pending = s.pending
      ∧ (decoderCatchUp p s).lif.rx = s.lif.rx ∧ (decoderCatchUp p s).lif.lineIdle = s.lif.lineIdle
      ∧ (decoderCatchUp p s).lif.tx = s.lif.tx ∧ (decoderCatchUp p s).lif.held = s.lif.held
      ∧ (decoderCatchUp p s).lif.txFault = s.lif.txFault ∧ (decoderCatchUp p s).lif.attemptOpen = s.lif.attemptOpen
      ∧ (decoderCatchUp p s).lif.failures = s.lif.failures
      ∧ (decoderCatchUp p s).lif.testSequence = s.lif.testSequence
      ∧ (decoderCatchUp p s).lif.duplicateSeen = s.lif.duplicateSeen
      ∧ (decoderCatchUp p s).lif.holdFrom = s.lif.holdFrom ∧ (decoderCatchUp p s).lif.txFrom = s.lif.txFrom
      ∧ (decoderCatchUp p s).lif.breakFrom = s.lif.breakFrom ∧ (decoderCatchUp p s).rgu.stored = s.rgu.stored
      ∧ (decoderCatchUp p s).rgu.map = s.rgu.map ∧ (decoderCatchUp p s).rgu.phase = s.rgu.phase
      ∧ (decoderCatchUp p s).rgu.mode = s.rgu.mode ∧ (decoderCatchUp p s).rgu.epoch = s.rgu.epoch
      ∧ (decoderCatchUp p s).rgu.silence = s.rgu.silence ∧ (decoderCatchUp p s).ptu.cuts = s.ptu.cuts := by
  unfold decoderCatchUp
  try dsimp only
  (repeat' split) <;> simp

@[simp] theorem decoderChange_frame (p : Point) (active : Bool) (s : State) :
    (decoderChange p active s).now = s.now ∧ (decoderChange p active s).startedAt = s.startedAt
      ∧ (decoderChange p active s).bdr = s.bdr ∧ (decoderChange p active s).sau = s.sau
      ∧ (decoderChange p active s).lfc = s.lfc ∧ (decoderChange p active s).lfu = s.lfu
      ∧ (decoderChange p active s).acu = s.acu ∧ (decoderChange p active s).pbu = s.pbu
      ∧ (decoderChange p active s).cpt = s.cpt ∧ (decoderChange p active s).ssu = s.ssu
      ∧ (decoderChange p active s).pending = s.pending ∧ (decoderChange p active s).lif.rx = s.lif.rx
      ∧ (decoderChange p active s).lif.lineIdle = s.lif.lineIdle ∧ (decoderChange p active s).lif.tx = s.lif.tx
      ∧ (decoderChange p active s).lif.held = s.lif.held ∧ (decoderChange p active s).lif.txFault = s.lif.txFault
      ∧ (decoderChange p active s).lif.attemptOpen = s.lif.attemptOpen
      ∧ (decoderChange p active s).lif.failures = s.lif.failures
      ∧ (decoderChange p active s).lif.testSequence = s.lif.testSequence
      ∧ (decoderChange p active s).lif.duplicateSeen = s.lif.duplicateSeen
      ∧ (decoderChange p active s).lif.holdFrom = s.lif.holdFrom
      ∧ (decoderChange p active s).lif.txFrom = s.lif.txFrom
      ∧ (decoderChange p active s).lif.breakFrom = s.lif.breakFrom
      ∧ (decoderChange p active s).rgu.stored = s.rgu.stored ∧ (decoderChange p active s).rgu.map = s.rgu.map
      ∧ (decoderChange p active s).rgu.phase = s.rgu.phase ∧ (decoderChange p active s).rgu.mode = s.rgu.mode
      ∧ (decoderChange p active s).rgu.epoch = s.rgu.epoch ∧ (decoderChange p active s).rgu.silence = s.rgu.silence
      ∧ (decoderChange p active s).ptu.cuts = s.ptu.cuts := by
  unfold decoderChange
  try dsimp only
  (repeat' split) <;> simp

@[simp] theorem continuousRing_frame (p : Point) (s : State) :
    (continuousRing p s).now = s.now ∧ (continuousRing p s).startedAt = s.startedAt ∧ (continuousRing p s).bdr = s.bdr
      ∧ (continuousRing p s).sau = s.sau ∧ (continuousRing p s).lfc = s.lfc ∧ (continuousRing p s).lfu = s.lfu
      ∧ (continuousRing p s).acu = s.acu ∧ (continuousRing p s).pbu = s.pbu ∧ (continuousRing p s).cpt = s.cpt
      ∧ (continuousRing p s).ssu = s.ssu ∧ (continuousRing p s).pending = s.pending
      ∧ (continuousRing p s).lif.rx = s.lif.rx ∧ (continuousRing p s).lif.lineIdle = s.lif.lineIdle
      ∧ (continuousRing p s).lif.tx = s.lif.tx ∧ (continuousRing p s).lif.held = s.lif.held
      ∧ (continuousRing p s).lif.txFault = s.lif.txFault ∧ (continuousRing p s).lif.attemptOpen = s.lif.attemptOpen
      ∧ (continuousRing p s).lif.failures = s.lif.failures
      ∧ (continuousRing p s).lif.testSequence = s.lif.testSequence
      ∧ (continuousRing p s).lif.duplicateSeen = s.lif.duplicateSeen
      ∧ (continuousRing p s).lif.holdFrom = s.lif.holdFrom ∧ (continuousRing p s).lif.txFrom = s.lif.txFrom
      ∧ (continuousRing p s).lif.breakFrom = s.lif.breakFrom ∧ (continuousRing p s).rgu.stored = s.rgu.stored
      ∧ (continuousRing p s).rgu.map = s.rgu.map ∧ (continuousRing p s).rgu.phase = s.rgu.phase
      ∧ (continuousRing p s).rgu.mode = s.rgu.mode ∧ (continuousRing p s).rgu.epoch = s.rgu.epoch
      ∧ (continuousRing p s).rgu.silence = s.rgu.silence ∧ (continuousRing p s).ptu.cuts = s.ptu.cuts := by
  unfold continuousRing
  try dsimp only
  (repeat' split) <;> simp

@[simp] theorem digitCloses_frame (p : Point) (s : State) :
    (digitCloses p s).now = s.now ∧ (digitCloses p s).startedAt = s.startedAt ∧ (digitCloses p s).lif = s.lif
      ∧ (digitCloses p s).bdr = s.bdr ∧ (digitCloses p s).rgu = s.rgu ∧ (digitCloses p s).sau = s.sau
      ∧ (digitCloses p s).lfc = s.lfc ∧ (digitCloses p s).lfu = s.lfu ∧ (digitCloses p s).acu = s.acu
      ∧ (digitCloses p s).pbu = s.pbu ∧ (digitCloses p s).eva = s.eva ∧ (digitCloses p s).cpt = s.cpt
      ∧ (digitCloses p s).ssu = s.ssu ∧ (digitCloses p s).pending = s.pending
      ∧ (digitCloses p s).ptu.cuts = s.ptu.cuts := by
  unfold digitCloses
  try dsimp only
  (repeat' split) <;> simp

@[simp] theorem roundCloses_frame (p : Point) (s : State) :
    (roundCloses p s).now = s.now ∧ (roundCloses p s).startedAt = s.startedAt ∧ (roundCloses p s).bdr = s.bdr
      ∧ (roundCloses p s).sau = s.sau ∧ (roundCloses p s).lfc = s.lfc ∧ (roundCloses p s).lfu = s.lfu
      ∧ (roundCloses p s).acu = s.acu ∧ (roundCloses p s).pbu = s.pbu ∧ (roundCloses p s).cpt = s.cpt
      ∧ (roundCloses p s).ssu = s.ssu ∧ (roundCloses p s).pending = s.pending ∧ (roundCloses p s).lif.rx = s.lif.rx
      ∧ (roundCloses p s).lif.lineIdle = s.lif.lineIdle ∧ (roundCloses p s).lif.tx = s.lif.tx
      ∧ (roundCloses p s).lif.held = s.lif.held ∧ (roundCloses p s).lif.txFault = s.lif.txFault
      ∧ (roundCloses p s).lif.attemptOpen = s.lif.attemptOpen ∧ (roundCloses p s).lif.failures = s.lif.failures
      ∧ (roundCloses p s).lif.testSequence = s.lif.testSequence
      ∧ (roundCloses p s).lif.duplicateSeen = s.lif.duplicateSeen ∧ (roundCloses p s).lif.holdFrom = s.lif.holdFrom
      ∧ (roundCloses p s).lif.txFrom = s.lif.txFrom ∧ (roundCloses p s).lif.breakFrom = s.lif.breakFrom
      ∧ (roundCloses p s).rgu.stored = s.rgu.stored ∧ (roundCloses p s).rgu.map = s.rgu.map
      ∧ (roundCloses p s).rgu.phase = s.rgu.phase ∧ (roundCloses p s).rgu.mode = s.rgu.mode
      ∧ (roundCloses p s).rgu.epoch = s.rgu.epoch ∧ (roundCloses p s).rgu.silence = s.rgu.silence
      ∧ (roundCloses p s).ptu.cuts = s.ptu.cuts := by
  unfold roundCloses
  try dsimp only
  (repeat' split) <;> simp

@[simp] theorem pointActive_frame (p : Point) (s : State) :
    (pointActive p s).now = s.now ∧ (pointActive p s).startedAt = s.startedAt ∧ (pointActive p s).bdr = s.bdr
      ∧ (pointActive p s).lfc = s.lfc ∧ (pointActive p s).lfu = s.lfu ∧ (pointActive p s).acu = s.acu
      ∧ (pointActive p s).pbu = s.pbu ∧ (pointActive p s).cpt = s.cpt ∧ (pointActive p s).ssu = s.ssu
      ∧ (pointActive p s).pending = s.pending ∧ (pointActive p s).lif.rx = s.lif.rx
      ∧ (pointActive p s).lif.lineIdle = s.lif.lineIdle ∧ (pointActive p s).lif.tx = s.lif.tx
      ∧ (pointActive p s).lif.held = s.lif.held ∧ (pointActive p s).lif.txFault = s.lif.txFault
      ∧ (pointActive p s).lif.attemptOpen = s.lif.attemptOpen ∧ (pointActive p s).lif.failures = s.lif.failures
      ∧ (pointActive p s).lif.testSequence = s.lif.testSequence
      ∧ (pointActive p s).lif.duplicateSeen = s.lif.duplicateSeen ∧ (pointActive p s).lif.holdFrom = s.lif.holdFrom
      ∧ (pointActive p s).lif.txFrom = s.lif.txFrom ∧ (pointActive p s).lif.breakFrom = s.lif.breakFrom
      ∧ (pointActive p s).rgu.stored = s.rgu.stored ∧ (pointActive p s).rgu.map = s.rgu.map
      ∧ (pointActive p s).rgu.phase = s.rgu.phase ∧ (pointActive p s).rgu.mode = s.rgu.mode
      ∧ (pointActive p s).rgu.epoch = s.rgu.epoch ∧ (pointActive p s).rgu.silence = s.rgu.silence
      ∧ (pointActive p s).sau.status = s.sau.status ∧ (pointActive p s).sau.queues = s.sau.queues
      ∧ (pointActive p s).sau.released = s.sau.released ∧ (pointActive p s).sau.assigned = s.sau.assigned
      ∧ (pointActive p s).sau.claim = s.sau.claim ∧ (pointActive p s).sau.drainNext = s.sau.drainNext := by
  unfold pointActive
  try dsimp only
  (repeat' split) <;> simp

@[simp] theorem goodReading_frame (p : Point) (before : PointRecord) (active : Bool) (s : State) :
    (goodReading p before active s).now = s.now ∧ (goodReading p before active s).startedAt = s.startedAt
      ∧ (goodReading p before active s).bdr = s.bdr ∧ (goodReading p before active s).lfc = s.lfc
      ∧ (goodReading p before active s).lfu = s.lfu ∧ (goodReading p before active s).acu = s.acu
      ∧ (goodReading p before active s).pbu = s.pbu ∧ (goodReading p before active s).cpt = s.cpt
      ∧ (goodReading p before active s).ssu = s.ssu ∧ (goodReading p before active s).pending = s.pending
      ∧ (goodReading p before active s).lif.rx = s.lif.rx
      ∧ (goodReading p before active s).lif.lineIdle = s.lif.lineIdle
      ∧ (goodReading p before active s).lif.tx = s.lif.tx ∧ (goodReading p before active s).lif.held = s.lif.held
      ∧ (goodReading p before active s).lif.txFault = s.lif.txFault
      ∧ (goodReading p before active s).lif.attemptOpen = s.lif.attemptOpen
      ∧ (goodReading p before active s).lif.failures = s.lif.failures
      ∧ (goodReading p before active s).lif.testSequence = s.lif.testSequence
      ∧ (goodReading p before active s).lif.duplicateSeen = s.lif.duplicateSeen
      ∧ (goodReading p before active s).lif.holdFrom = s.lif.holdFrom
      ∧ (goodReading p before active s).lif.txFrom = s.lif.txFrom
      ∧ (goodReading p before active s).lif.breakFrom = s.lif.breakFrom
      ∧ (goodReading p before active s).rgu.stored = s.rgu.stored
      ∧ (goodReading p before active s).rgu.map = s.rgu.map ∧ (goodReading p before active s).rgu.phase = s.rgu.phase
      ∧ (goodReading p before active s).rgu.mode = s.rgu.mode
      ∧ (goodReading p before active s).rgu.epoch = s.rgu.epoch
      ∧ (goodReading p before active s).rgu.silence = s.rgu.silence
      ∧ (goodReading p before active s).sau.status = s.sau.status
      ∧ (goodReading p before active s).sau.queues = s.sau.queues
      ∧ (goodReading p before active s).sau.released = s.sau.released
      ∧ (goodReading p before active s).sau.assigned = s.sau.assigned
      ∧ (goodReading p before active s).sau.claim = s.sau.claim
      ∧ (goodReading p before active s).sau.drainNext = s.sau.drainNext := by
  unfold goodReading
  try dsimp only
  (repeat' split) <;> simp

@[simp] theorem faultReading_frame (p : Point) (isOpen : Bool) (s : State) :
    (faultReading p isOpen s).now = s.now ∧ (faultReading p isOpen s).startedAt = s.startedAt
      ∧ (faultReading p isOpen s).lif = s.lif ∧ (faultReading p isOpen s).bdr = s.bdr
      ∧ (faultReading p isOpen s).rgu = s.rgu ∧ (faultReading p isOpen s).sau = s.sau
      ∧ (faultReading p isOpen s).lfc = s.lfc ∧ (faultReading p isOpen s).lfu = s.lfu
      ∧ (faultReading p isOpen s).acu = s.acu ∧ (faultReading p isOpen s).pbu = s.pbu
      ∧ (faultReading p isOpen s).cpt = s.cpt ∧ (faultReading p isOpen s).ssu = s.ssu
      ∧ (faultReading p isOpen s).pending = s.pending ∧ (faultReading p isOpen s).ptu.cuts = s.ptu.cuts := by
  unfold faultReading
  try dsimp only
  (repeat' split) <;> simp

@[simp] theorem pointFollows_frame (p : Point) (own : List Entry) (s : State) :
    (pointFollows p own s).now = s.now ∧ (pointFollows p own s).startedAt = s.startedAt
      ∧ (pointFollows p own s).bdr = s.bdr ∧ (pointFollows p own s).pending = s.pending
      ∧ (pointFollows p own s).lif.rx = s.lif.rx ∧ (pointFollows p own s).lif.lineIdle = s.lif.lineIdle
      ∧ (pointFollows p own s).lif.tx = s.lif.tx ∧ (pointFollows p own s).lif.held = s.lif.held
      ∧ (pointFollows p own s).lif.txFault = s.lif.txFault
      ∧ (pointFollows p own s).lif.attemptOpen = s.lif.attemptOpen
      ∧ (pointFollows p own s).lif.failures = s.lif.failures
      ∧ (pointFollows p own s).lif.testSequence = s.lif.testSequence
      ∧ (pointFollows p own s).lif.duplicateSeen = s.lif.duplicateSeen
      ∧ (pointFollows p own s).lif.holdFrom = s.lif.holdFrom ∧ (pointFollows p own s).lif.txFrom = s.lif.txFrom
      ∧ (pointFollows p own s).lif.breakFrom = s.lif.breakFrom ∧ (pointFollows p own s).sau.status = s.sau.status
      ∧ (pointFollows p own s).sau.smokeOffer = s.sau.smokeOffer ∧ (pointFollows p own s).sau.queues = s.sau.queues
      ∧ (pointFollows p own s).sau.released = s.sau.released ∧ (pointFollows p own s).sau.assigned = s.sau.assigned
      ∧ (pointFollows p own s).sau.drainNext = s.sau.drainNext ∧ (pointFollows p own s).rgu.own = s.rgu.own
      ∧ (pointFollows p own s).rgu.stored = s.rgu.stored ∧ (pointFollows p own s).rgu.epoch = s.rgu.epoch
      ∧ (pointFollows p own s).ptu.cuts = s.ptu.cuts ∧ (pointFollows p own s).lfc.unlockAll = s.lfc.unlockAll
      ∧ (pointFollows p own s).ssu.join = s.ssu.join ∧ (pointFollows p own s).ssu.stage = s.ssu.stage
      ∧ (pointFollows p own s).ssu.station = s.ssu.station ∧ (pointFollows p own s).ssu.expiries = s.ssu.expiries
      ∧ (pointFollows p own s).ssu.config = s.ssu.config ∧ (pointFollows p own s).cpt.rx = s.cpt.rx
      ∧ (pointFollows p own s).cpt.inHand = s.cpt.inHand ∧ (pointFollows p own s).cpt.delegation = s.cpt.delegation
      ∧ (pointFollows p own s).cpt.dropped = s.cpt.dropped ∧ (pointFollows p own s).cpt.commands = s.cpt.commands
      ∧ (pointFollows p own s).cpt.errors = s.cpt.errors := by
  unfold pointFollows
  try dsimp only
  (repeat' split) <;> simp

@[simp] theorem takeReading_frame (p : Point) (r : Sensed) (s : State) :
    (takeReading p r s).now = s.now ∧ (takeReading p r s).startedAt = s.startedAt ∧ (takeReading p r s).bdr = s.bdr
      ∧ (takeReading p r s).pending = s.pending ∧ (takeReading p r s).lif.rx = s.lif.rx
      ∧ (takeReading p r s).lif.lineIdle = s.lif.lineIdle ∧ (takeReading p r s).lif.tx = s.lif.tx
      ∧ (takeReading p r s).lif.held = s.lif.held ∧ (takeReading p r s).lif.txFault = s.lif.txFault
      ∧ (takeReading p r s).lif.attemptOpen = s.lif.attemptOpen ∧ (takeReading p r s).lif.failures = s.lif.failures
      ∧ (takeReading p r s).lif.testSequence = s.lif.testSequence
      ∧ (takeReading p r s).lif.duplicateSeen = s.lif.duplicateSeen
      ∧ (takeReading p r s).lif.holdFrom = s.lif.holdFrom ∧ (takeReading p r s).lif.txFrom = s.lif.txFrom
      ∧ (takeReading p r s).lif.breakFrom = s.lif.breakFrom ∧ (takeReading p r s).sau.status = s.sau.status
      ∧ (takeReading p r s).sau.queues = s.sau.queues ∧ (takeReading p r s).sau.released = s.sau.released
      ∧ (takeReading p r s).sau.assigned = s.sau.assigned ∧ (takeReading p r s).sau.drainNext = s.sau.drainNext
      ∧ (takeReading p r s).rgu.stored = s.rgu.stored ∧ (takeReading p r s).rgu.epoch = s.rgu.epoch
      ∧ (takeReading p r s).lfc.unlockAll = s.lfc.unlockAll ∧ (takeReading p r s).ssu.join = s.ssu.join
      ∧ (takeReading p r s).ssu.stage = s.ssu.stage ∧ (takeReading p r s).ssu.station = s.ssu.station
      ∧ (takeReading p r s).ssu.expiries = s.ssu.expiries ∧ (takeReading p r s).ssu.config = s.ssu.config
      ∧ (takeReading p r s).cpt.rx = s.cpt.rx ∧ (takeReading p r s).cpt.inHand = s.cpt.inHand
      ∧ (takeReading p r s).cpt.delegation = s.cpt.delegation ∧ (takeReading p r s).cpt.dropped = s.cpt.dropped
      ∧ (takeReading p r s).cpt.commands = s.cpt.commands ∧ (takeReading p r s).cpt.errors = s.cpt.errors := by
  unfold takeReading
  try dsimp only
  (repeat' split) <;> simp

@[simp] theorem isolatePoint_frame (p : Point) (s : State) :
    ((isolatePoint p s).1).now = s.now ∧ ((isolatePoint p s).1).startedAt = s.startedAt
      ∧ ((isolatePoint p s).1).bdr = s.bdr ∧ ((isolatePoint p s).1).pending = s.pending
      ∧ ((isolatePoint p s).1).lif.rx = s.lif.rx ∧ ((isolatePoint p s).1).lif.lineIdle = s.lif.lineIdle
      ∧ ((isolatePoint p s).1).lif.tx = s.lif.tx ∧ ((isolatePoint p s).1).lif.held = s.lif.held
      ∧ ((isolatePoint p s).1).lif.txFault = s.lif.txFault
      ∧ ((isolatePoint p s).1).lif.attemptOpen = s.lif.attemptOpen
      ∧ ((isolatePoint p s).1).lif.failures = s.lif.failures
      ∧ ((isolatePoint p s).1).lif.testSequence = s.lif.testSequence
      ∧ ((isolatePoint p s).1).lif.duplicateSeen = s.lif.duplicateSeen
      ∧ ((isolatePoint p s).1).lif.holdFrom = s.lif.holdFrom ∧ ((isolatePoint p s).1).lif.txFrom = s.lif.txFrom
      ∧ ((isolatePoint p s).1).lif.breakFrom = s.lif.breakFrom ∧ ((isolatePoint p s).1).sau.status = s.sau.status
      ∧ ((isolatePoint p s).1).sau.smokeOffer = s.sau.smokeOffer ∧ ((isolatePoint p s).1).sau.queues = s.sau.queues
      ∧ ((isolatePoint p s).1).sau.released = s.sau.released ∧ ((isolatePoint p s).1).sau.assigned = s.sau.assigned
      ∧ ((isolatePoint p s).1).sau.drainNext = s.sau.drainNext ∧ ((isolatePoint p s).1).rgu.own = s.rgu.own
      ∧ ((isolatePoint p s).1).rgu.stored = s.rgu.stored ∧ ((isolatePoint p s).1).rgu.epoch = s.rgu.epoch
      ∧ ((isolatePoint p s).1).ptu.cuts = s.ptu.cuts ∧ ((isolatePoint p s).1).lfc.unlockAll = s.lfc.unlockAll
      ∧ ((isolatePoint p s).1).ssu.join = s.ssu.join ∧ ((isolatePoint p s).1).ssu.stage = s.ssu.stage
      ∧ ((isolatePoint p s).1).ssu.station = s.ssu.station ∧ ((isolatePoint p s).1).ssu.expiries = s.ssu.expiries
      ∧ ((isolatePoint p s).1).ssu.config = s.ssu.config ∧ ((isolatePoint p s).1).cpt.rx = s.cpt.rx
      ∧ ((isolatePoint p s).1).cpt.inHand = s.cpt.inHand ∧ ((isolatePoint p s).1).cpt.delegation = s.cpt.delegation
      ∧ ((isolatePoint p s).1).cpt.dropped = s.cpt.dropped ∧ ((isolatePoint p s).1).cpt.commands = s.cpt.commands
      ∧ ((isolatePoint p s).1).cpt.errors = s.cpt.errors := by
  unfold isolatePoint
  try dsimp only
  (repeat' split) <;> simp

@[simp] theorem restorePoint_frame (p : Point) (s : State) :
    ((restorePoint p s).1).now = s.now ∧ ((restorePoint p s).1).startedAt = s.startedAt
      ∧ ((restorePoint p s).1).bdr = s.bdr ∧ ((restorePoint p s).1).pending = s.pending
      ∧ ((restorePoint p s).1).lif.rx = s.lif.rx ∧ ((restorePoint p s).1).lif.lineIdle = s.lif.lineIdle
      ∧ ((restorePoint p s).1).lif.tx = s.lif.tx ∧ ((restorePoint p s).1).lif.held = s.lif.held
      ∧ ((restorePoint p s).1).lif.txFault = s.lif.txFault
      ∧ ((restorePoint p s).1).lif.attemptOpen = s.lif.attemptOpen
      ∧ ((restorePoint p s).1).lif.failures = s.lif.failures
      ∧ ((restorePoint p s).1).lif.testSequence = s.lif.testSequence
      ∧ ((restorePoint p s).1).lif.duplicateSeen = s.lif.duplicateSeen
      ∧ ((restorePoint p s).1).lif.holdFrom = s.lif.holdFrom ∧ ((restorePoint p s).1).lif.txFrom = s.lif.txFrom
      ∧ ((restorePoint p s).1).lif.breakFrom = s.lif.breakFrom ∧ ((restorePoint p s).1).sau.status = s.sau.status
      ∧ ((restorePoint p s).1).sau.smokeOffer = s.sau.smokeOffer ∧ ((restorePoint p s).1).sau.queues = s.sau.queues
      ∧ ((restorePoint p s).1).sau.released = s.sau.released ∧ ((restorePoint p s).1).sau.assigned = s.sau.assigned
      ∧ ((restorePoint p s).1).sau.drainNext = s.sau.drainNext ∧ ((restorePoint p s).1).rgu.own = s.rgu.own
      ∧ ((restorePoint p s).1).rgu.stored = s.rgu.stored ∧ ((restorePoint p s).1).rgu.epoch = s.rgu.epoch
      ∧ ((restorePoint p s).1).ptu.cuts = s.ptu.cuts ∧ ((restorePoint p s).1).lfc.unlockAll = s.lfc.unlockAll
      ∧ ((restorePoint p s).1).ssu.join = s.ssu.join ∧ ((restorePoint p s).1).ssu.stage = s.ssu.stage
      ∧ ((restorePoint p s).1).ssu.station = s.ssu.station ∧ ((restorePoint p s).1).ssu.expiries = s.ssu.expiries
      ∧ ((restorePoint p s).1).ssu.config = s.ssu.config ∧ ((restorePoint p s).1).cpt.rx = s.cpt.rx
      ∧ ((restorePoint p s).1).cpt.inHand = s.cpt.inHand ∧ ((restorePoint p s).1).cpt.delegation = s.cpt.delegation
      ∧ ((restorePoint p s).1).cpt.dropped = s.cpt.dropped ∧ ((restorePoint p s).1).cpt.commands = s.cpt.commands
      ∧ ((restorePoint p s).1).cpt.errors = s.cpt.errors := by
  unfold restorePoint
  try dsimp only
  (repeat' split) <;> simp

@[simp] theorem leaveFire_frame (p : Point) (s : State) :
    (leaveFire p s).now = s.now ∧ (leaveFire p s).startedAt = s.startedAt ∧ (leaveFire p s).lif = s.lif
      ∧ (leaveFire p s).bdr = s.bdr ∧ (leaveFire p s).rgu = s.rgu ∧ (leaveFire p s).sau = s.sau
      ∧ (leaveFire p s).lfc = s.lfc ∧ (leaveFire p s).lfu = s.lfu ∧ (leaveFire p s).acu = s.acu
      ∧ (leaveFire p s).pbu = s.pbu ∧ (leaveFire p s).cpt = s.cpt ∧ (leaveFire p s).ssu = s.ssu
      ∧ (leaveFire p s).pending = s.pending ∧ (leaveFire p s).ptu.cuts = s.ptu.cuts := by
  unfold leaveFire
  try dsimp only
  (repeat' split) <;> simp

@[simp] theorem restartDecoder_frame (p : Point) (s : State) :
    (restartDecoder p s).now = s.now ∧ (restartDecoder p s).startedAt = s.startedAt ∧ (restartDecoder p s).lif = s.lif
      ∧ (restartDecoder p s).bdr = s.bdr ∧ (restartDecoder p s).rgu = s.rgu ∧ (restartDecoder p s).sau = s.sau
      ∧ (restartDecoder p s).lfc = s.lfc ∧ (restartDecoder p s).lfu = s.lfu ∧ (restartDecoder p s).acu = s.acu
      ∧ (restartDecoder p s).pbu = s.pbu ∧ (restartDecoder p s).cpt = s.cpt ∧ (restartDecoder p s).ssu = s.ssu
      ∧ (restartDecoder p s).pending = s.pending ∧ (restartDecoder p s).ptu.cuts = s.ptu.cuts := by
  unfold restartDecoder
  try dsimp only
  (repeat' split) <;> simp

@[simp] theorem offerAgain_frame (p : Point) (s : State) :
    (offerAgain p s).now = s.now ∧ (offerAgain p s).startedAt = s.startedAt ∧ (offerAgain p s).bdr = s.bdr
      ∧ (offerAgain p s).lfc = s.lfc ∧ (offerAgain p s).lfu = s.lfu ∧ (offerAgain p s).acu = s.acu
      ∧ (offerAgain p s).pbu = s.pbu ∧ (offerAgain p s).cpt = s.cpt ∧ (offerAgain p s).ssu = s.ssu
      ∧ (offerAgain p s).pending = s.pending ∧ (offerAgain p s).lif.rx = s.lif.rx
      ∧ (offerAgain p s).lif.lineIdle = s.lif.lineIdle ∧ (offerAgain p s).lif.tx = s.lif.tx
      ∧ (offerAgain p s).lif.held = s.lif.held ∧ (offerAgain p s).lif.txFault = s.lif.txFault
      ∧ (offerAgain p s).lif.attemptOpen = s.lif.attemptOpen ∧ (offerAgain p s).lif.failures = s.lif.failures
      ∧ (offerAgain p s).lif.testSequence = s.lif.testSequence
      ∧ (offerAgain p s).lif.duplicateSeen = s.lif.duplicateSeen ∧ (offerAgain p s).lif.holdFrom = s.lif.holdFrom
      ∧ (offerAgain p s).lif.txFrom = s.lif.txFrom ∧ (offerAgain p s).lif.breakFrom = s.lif.breakFrom
      ∧ (offerAgain p s).rgu.stored = s.rgu.stored ∧ (offerAgain p s).rgu.map = s.rgu.map
      ∧ (offerAgain p s).rgu.phase = s.rgu.phase ∧ (offerAgain p s).rgu.mode = s.rgu.mode
      ∧ (offerAgain p s).rgu.epoch = s.rgu.epoch ∧ (offerAgain p s).rgu.silence = s.rgu.silence
      ∧ (offerAgain p s).ptu.cuts = s.ptu.cuts ∧ (offerAgain p s).sau.status = s.sau.status
      ∧ (offerAgain p s).sau.queues = s.sau.queues ∧ (offerAgain p s).sau.released = s.sau.released
      ∧ (offerAgain p s).sau.assigned = s.sau.assigned ∧ (offerAgain p s).sau.claim = s.sau.claim
      ∧ (offerAgain p s).sau.drainNext = s.sau.drainNext := by
  unfold offerAgain
  try dsimp only
  (repeat' split) <;> simp

@[simp] theorem cancelByEpoch_frame (p : Point) (s : State) :
    (cancelByEpoch p s).now = s.now ∧ (cancelByEpoch p s).startedAt = s.startedAt ∧ (cancelByEpoch p s).lif = s.lif
      ∧ (cancelByEpoch p s).bdr = s.bdr ∧ (cancelByEpoch p s).rgu = s.rgu ∧ (cancelByEpoch p s).sau = s.sau
      ∧ (cancelByEpoch p s).lfc = s.lfc ∧ (cancelByEpoch p s).lfu = s.lfu ∧ (cancelByEpoch p s).acu = s.acu
      ∧ (cancelByEpoch p s).pbu = s.pbu ∧ (cancelByEpoch p s).cpt = s.cpt ∧ (cancelByEpoch p s).ssu = s.ssu
      ∧ (cancelByEpoch p s).pending = s.pending ∧ (cancelByEpoch p s).ptu.cuts = s.ptu.cuts := by
  simp [cancelByEpoch]

@[simp] theorem rebuildVerified_frame (p : Point) (s : State) :
    (rebuildVerified p s).now = s.now ∧ (rebuildVerified p s).startedAt = s.startedAt
      ∧ (rebuildVerified p s).bdr = s.bdr ∧ (rebuildVerified p s).lfc = s.lfc ∧ (rebuildVerified p s).lfu = s.lfu
      ∧ (rebuildVerified p s).acu = s.acu ∧ (rebuildVerified p s).pbu = s.pbu ∧ (rebuildVerified p s).cpt = s.cpt
      ∧ (rebuildVerified p s).ssu = s.ssu ∧ (rebuildVerified p s).pending = s.pending
      ∧ (rebuildVerified p s).lif.rx = s.lif.rx ∧ (rebuildVerified p s).lif.lineIdle = s.lif.lineIdle
      ∧ (rebuildVerified p s).lif.tx = s.lif.tx ∧ (rebuildVerified p s).lif.held = s.lif.held
      ∧ (rebuildVerified p s).lif.txFault = s.lif.txFault ∧ (rebuildVerified p s).lif.attemptOpen = s.lif.attemptOpen
      ∧ (rebuildVerified p s).lif.failures = s.lif.failures
      ∧ (rebuildVerified p s).lif.testSequence = s.lif.testSequence
      ∧ (rebuildVerified p s).lif.duplicateSeen = s.lif.duplicateSeen
      ∧ (rebuildVerified p s).lif.holdFrom = s.lif.holdFrom ∧ (rebuildVerified p s).lif.txFrom = s.lif.txFrom
      ∧ (rebuildVerified p s).lif.breakFrom = s.lif.breakFrom ∧ (rebuildVerified p s).rgu.stored = s.rgu.stored
      ∧ (rebuildVerified p s).rgu.map = s.rgu.map ∧ (rebuildVerified p s).rgu.phase = s.rgu.phase
      ∧ (rebuildVerified p s).rgu.mode = s.rgu.mode ∧ (rebuildVerified p s).rgu.epoch = s.rgu.epoch
      ∧ (rebuildVerified p s).rgu.silence = s.rgu.silence ∧ (rebuildVerified p s).ptu.cuts = s.ptu.cuts
      ∧ (rebuildVerified p s).sau.status = s.sau.status ∧ (rebuildVerified p s).sau.queues = s.sau.queues
      ∧ (rebuildVerified p s).sau.released = s.sau.released ∧ (rebuildVerified p s).sau.assigned = s.sau.assigned
      ∧ (rebuildVerified p s).sau.claim = s.sau.claim ∧ (rebuildVerified p s).sau.drainNext = s.sau.drainNext := by
  unfold rebuildVerified
  try dsimp only
  (repeat' split) <;> simp

@[simp] theorem rebuildPoint_frame (p : Point) (s : State) :
    (rebuildPoint p s).now = s.now ∧ (rebuildPoint p s).startedAt = s.startedAt ∧ (rebuildPoint p s).bdr = s.bdr
      ∧ (rebuildPoint p s).lfc = s.lfc ∧ (rebuildPoint p s).lfu = s.lfu ∧ (rebuildPoint p s).acu = s.acu
      ∧ (rebuildPoint p s).pbu = s.pbu ∧ (rebuildPoint p s).cpt = s.cpt ∧ (rebuildPoint p s).ssu = s.ssu
      ∧ (rebuildPoint p s).pending = s.pending ∧ (rebuildPoint p s).lif.rx = s.lif.rx
      ∧ (rebuildPoint p s).lif.lineIdle = s.lif.lineIdle ∧ (rebuildPoint p s).lif.tx = s.lif.tx
      ∧ (rebuildPoint p s).lif.held = s.lif.held ∧ (rebuildPoint p s).lif.txFault = s.lif.txFault
      ∧ (rebuildPoint p s).lif.attemptOpen = s.lif.attemptOpen ∧ (rebuildPoint p s).lif.failures = s.lif.failures
      ∧ (rebuildPoint p s).lif.testSequence = s.lif.testSequence
      ∧ (rebuildPoint p s).lif.duplicateSeen = s.lif.duplicateSeen ∧ (rebuildPoint p s).lif.holdFrom = s.lif.holdFrom
      ∧ (rebuildPoint p s).lif.txFrom = s.lif.txFrom ∧ (rebuildPoint p s).lif.breakFrom = s.lif.breakFrom
      ∧ (rebuildPoint p s).rgu.stored = s.rgu.stored ∧ (rebuildPoint p s).rgu.map = s.rgu.map
      ∧ (rebuildPoint p s).rgu.phase = s.rgu.phase ∧ (rebuildPoint p s).rgu.mode = s.rgu.mode
      ∧ (rebuildPoint p s).rgu.epoch = s.rgu.epoch ∧ (rebuildPoint p s).rgu.silence = s.rgu.silence
      ∧ (rebuildPoint p s).ptu.cuts = s.ptu.cuts ∧ (rebuildPoint p s).sau.status = s.sau.status
      ∧ (rebuildPoint p s).sau.queues = s.sau.queues ∧ (rebuildPoint p s).sau.released = s.sau.released
      ∧ (rebuildPoint p s).sau.assigned = s.sau.assigned ∧ (rebuildPoint p s).sau.claim = s.sau.claim
      ∧ (rebuildPoint p s).sau.drainNext = s.sau.drainNext := by
  unfold rebuildPoint
  try dsimp only
  (repeat' split) <;> simp

@[simp] theorem endCuts_frame (s : State) :
    (endCuts s).now = s.now ∧ (endCuts s).startedAt = s.startedAt ∧ (endCuts s).lif = s.lif ∧ (endCuts s).bdr = s.bdr
      ∧ (endCuts s).rgu = s.rgu ∧ (endCuts s).sau = s.sau ∧ (endCuts s).lfc = s.lfc ∧ (endCuts s).lfu = s.lfu
      ∧ (endCuts s).acu = s.acu ∧ (endCuts s).pbu = s.pbu ∧ (endCuts s).eva = s.eva ∧ (endCuts s).cpt = s.cpt
      ∧ (endCuts s).ssu = s.ssu ∧ (endCuts s).pending = s.pending := by
  simp [endCuts]

@[simp] theorem rebuildPoints_frame (s : State) :
    (rebuildPoints s).now = s.now ∧ (rebuildPoints s).startedAt = s.startedAt ∧ (rebuildPoints s).bdr = s.bdr
      ∧ (rebuildPoints s).lfc = s.lfc ∧ (rebuildPoints s).acu = s.acu ∧ (rebuildPoints s).pbu = s.pbu
      ∧ (rebuildPoints s).cpt = s.cpt ∧ (rebuildPoints s).ssu = s.ssu ∧ (rebuildPoints s).pending = s.pending
      ∧ (rebuildPoints s).lif.rx = s.lif.rx ∧ (rebuildPoints s).lif.lineIdle = s.lif.lineIdle
      ∧ (rebuildPoints s).lif.tx = s.lif.tx ∧ (rebuildPoints s).lif.held = s.lif.held
      ∧ (rebuildPoints s).lif.txFault = s.lif.txFault ∧ (rebuildPoints s).lif.attemptOpen = s.lif.attemptOpen
      ∧ (rebuildPoints s).lif.failures = s.lif.failures ∧ (rebuildPoints s).lif.testSequence = s.lif.testSequence
      ∧ (rebuildPoints s).lif.duplicateSeen = s.lif.duplicateSeen ∧ (rebuildPoints s).lif.holdFrom = s.lif.holdFrom
      ∧ (rebuildPoints s).lif.txFrom = s.lif.txFrom ∧ (rebuildPoints s).lif.breakFrom = s.lif.breakFrom
      ∧ (rebuildPoints s).rgu.stored = s.rgu.stored ∧ (rebuildPoints s).rgu.map = s.rgu.map
      ∧ (rebuildPoints s).rgu.phase = s.rgu.phase ∧ (rebuildPoints s).rgu.mode = s.rgu.mode
      ∧ (rebuildPoints s).rgu.epoch = s.rgu.epoch ∧ (rebuildPoints s).rgu.silence = s.rgu.silence
      ∧ (rebuildPoints s).sau.status = s.sau.status ∧ (rebuildPoints s).sau.queues = s.sau.queues
      ∧ (rebuildPoints s).sau.released = s.sau.released ∧ (rebuildPoints s).sau.assigned = s.sau.assigned
      ∧ (rebuildPoints s).sau.claim = s.sau.claim ∧ (rebuildPoints s).sau.drainNext = s.sau.drainNext := by
  unfold rebuildPoints
  have h := endCuts_frame s
  generalize endCuts s = t at h ⊢
  simp only [← h]
  clear h
  simp only [reportBanks_frame]
  generalize List.finRange _ = l
  induction l generalizing t with
  | nil => simp
  | cons a l ih => simp [ih]

/-! ## The Bulletin Dispatcher and Roster (chapter 2) -/

@[simp] theorem offerStatus_frame (s : State) :
    (offerStatus s).now = s.now ∧ (offerStatus s).startedAt = s.startedAt ∧ (offerStatus s).bdr = s.bdr
      ∧ (offerStatus s).ptu = s.ptu ∧ (offerStatus s).rgu = s.rgu ∧ (offerStatus s).sau = s.sau
      ∧ (offerStatus s).lfc = s.lfc ∧ (offerStatus s).lfu = s.lfu ∧ (offerStatus s).acu = s.acu
      ∧ (offerStatus s).pbu = s.pbu ∧ (offerStatus s).eva = s.eva ∧ (offerStatus s).cpt = s.cpt
      ∧ (offerStatus s).ssu = s.ssu ∧ (offerStatus s).pending = s.pending ∧ (offerStatus s).lif.rx = s.lif.rx
      ∧ (offerStatus s).lif.lineIdle = s.lif.lineIdle ∧ (offerStatus s).lif.tx = s.lif.tx
      ∧ (offerStatus s).lif.held = s.lif.held ∧ (offerStatus s).lif.txFault = s.lif.txFault
      ∧ (offerStatus s).lif.attemptOpen = s.lif.attemptOpen ∧ (offerStatus s).lif.failures = s.lif.failures
      ∧ (offerStatus s).lif.testSequence = s.lif.testSequence
      ∧ (offerStatus s).lif.duplicateSeen = s.lif.duplicateSeen ∧ (offerStatus s).lif.holdFrom = s.lif.holdFrom
      ∧ (offerStatus s).lif.txFrom = s.lif.txFrom ∧ (offerStatus s).lif.breakFrom = s.lif.breakFrom := by
  simp [offerStatus]

@[simp] theorem followStatus_frame (s : State) :
    (followStatus s).now = s.now ∧ (followStatus s).startedAt = s.startedAt ∧ (followStatus s).bdr = s.bdr
      ∧ (followStatus s).ptu = s.ptu ∧ (followStatus s).rgu = s.rgu ∧ (followStatus s).sau = s.sau
      ∧ (followStatus s).lfc = s.lfc ∧ (followStatus s).lfu = s.lfu ∧ (followStatus s).acu = s.acu
      ∧ (followStatus s).pbu = s.pbu ∧ (followStatus s).eva = s.eva ∧ (followStatus s).cpt = s.cpt
      ∧ (followStatus s).ssu = s.ssu ∧ (followStatus s).pending = s.pending ∧ (followStatus s).lif.rx = s.lif.rx
      ∧ (followStatus s).lif.lineIdle = s.lif.lineIdle ∧ (followStatus s).lif.tx = s.lif.tx
      ∧ (followStatus s).lif.held = s.lif.held ∧ (followStatus s).lif.txFault = s.lif.txFault
      ∧ (followStatus s).lif.attemptOpen = s.lif.attemptOpen ∧ (followStatus s).lif.failures = s.lif.failures
      ∧ (followStatus s).lif.testSequence = s.lif.testSequence
      ∧ (followStatus s).lif.duplicateSeen = s.lif.duplicateSeen ∧ (followStatus s).lif.holdFrom = s.lif.holdFrom
      ∧ (followStatus s).lif.txFrom = s.lif.txFrom ∧ (followStatus s).lif.breakFrom = s.lif.breakFrom := by
  unfold followStatus
  try dsimp only
  (repeat' split) <;> simp

@[simp] theorem followOwnRecord_frame (s : State) :
    (followOwnRecord s).now = s.now ∧ (followOwnRecord s).startedAt = s.startedAt ∧ (followOwnRecord s).lif = s.lif
      ∧ (followOwnRecord s).ptu = s.ptu ∧ (followOwnRecord s).rgu = s.rgu ∧ (followOwnRecord s).sau = s.sau
      ∧ (followOwnRecord s).lfc = s.lfc ∧ (followOwnRecord s).lfu = s.lfu ∧ (followOwnRecord s).acu = s.acu
      ∧ (followOwnRecord s).pbu = s.pbu ∧ (followOwnRecord s).eva = s.eva ∧ (followOwnRecord s).cpt = s.cpt
      ∧ (followOwnRecord s).ssu = s.ssu ∧ (followOwnRecord s).pending = s.pending
      ∧ (followOwnRecord s).bdr.summary = s.bdr.summary ∧ (followOwnRecord s).bdr.refreshNext = s.bdr.refreshNext
      ∧ (followOwnRecord s).bdr.rejectedSeen = s.bdr.rejectedSeen := by
  unfold followOwnRecord
  try dsimp only
  (repeat' split) <;> simp

@[simp] theorem finish_frame (before : State) (s : State) :
    (finish before s).now = s.now ∧ (finish before s).startedAt = s.startedAt ∧ (finish before s).ptu = s.ptu
      ∧ (finish before s).rgu = s.rgu ∧ (finish before s).sau = s.sau ∧ (finish before s).lfc = s.lfc
      ∧ (finish before s).lfu = s.lfu ∧ (finish before s).acu = s.acu ∧ (finish before s).pbu = s.pbu
      ∧ (finish before s).eva = s.eva ∧ (finish before s).cpt = s.cpt ∧ (finish before s).ssu = s.ssu
      ∧ (finish before s).pending = s.pending ∧ (finish before s).lif.rx = s.lif.rx
      ∧ (finish before s).lif.lineIdle = s.lif.lineIdle ∧ (finish before s).lif.tx = s.lif.tx
      ∧ (finish before s).lif.held = s.lif.held ∧ (finish before s).lif.txFault = s.lif.txFault
      ∧ (finish before s).lif.attemptOpen = s.lif.attemptOpen ∧ (finish before s).lif.failures = s.lif.failures
      ∧ (finish before s).lif.testSequence = s.lif.testSequence
      ∧ (finish before s).lif.duplicateSeen = s.lif.duplicateSeen ∧ (finish before s).lif.holdFrom = s.lif.holdFrom
      ∧ (finish before s).lif.txFrom = s.lif.txFrom ∧ (finish before s).lif.breakFrom = s.lif.breakFrom
      ∧ (finish before s).bdr.summary = s.bdr.summary ∧ (finish before s).bdr.refreshNext = s.bdr.refreshNext
      ∧ (finish before s).bdr.rejectedSeen = s.bdr.rejectedSeen := by
  unfold finish
  try dsimp only
  (repeat' split) <;> simp

@[simp] theorem refreshRecord_frame (n : Sender) (s : State) :
    (refreshRecord n s).now = s.now ∧ (refreshRecord n s).startedAt = s.startedAt ∧ (refreshRecord n s).lif = s.lif
      ∧ (refreshRecord n s).ptu = s.ptu ∧ (refreshRecord n s).rgu = s.rgu ∧ (refreshRecord n s).sau = s.sau
      ∧ (refreshRecord n s).lfc = s.lfc ∧ (refreshRecord n s).lfu = s.lfu ∧ (refreshRecord n s).acu = s.acu
      ∧ (refreshRecord n s).pbu = s.pbu ∧ (refreshRecord n s).cpt = s.cpt ∧ (refreshRecord n s).ssu = s.ssu
      ∧ (refreshRecord n s).pending = s.pending ∧ (refreshRecord n s).bdr.summary = s.bdr.summary
      ∧ (refreshRecord n s).bdr.refreshNext = s.bdr.refreshNext
      ∧ (refreshRecord n s).bdr.rejectedSeen = s.bdr.rejectedSeen := by
  unfold refreshRecord
  try dsimp only
  (repeat' split) <;> simp

@[simp] theorem changeRecord_frame (n : Sender) (f : RosterRecord → RosterRecord) (s : State) :
    (changeRecord n f s).now = s.now ∧ (changeRecord n f s).startedAt = s.startedAt ∧ (changeRecord n f s).lif = s.lif
      ∧ (changeRecord n f s).ptu = s.ptu ∧ (changeRecord n f s).rgu = s.rgu ∧ (changeRecord n f s).sau = s.sau
      ∧ (changeRecord n f s).lfc = s.lfc ∧ (changeRecord n f s).lfu = s.lfu ∧ (changeRecord n f s).acu = s.acu
      ∧ (changeRecord n f s).pbu = s.pbu ∧ (changeRecord n f s).eva = s.eva ∧ (changeRecord n f s).cpt = s.cpt
      ∧ (changeRecord n f s).ssu = s.ssu ∧ (changeRecord n f s).pending = s.pending
      ∧ (changeRecord n f s).bdr.summary = s.bdr.summary ∧ (changeRecord n f s).bdr.refreshNext = s.bdr.refreshNext
      ∧ (changeRecord n f s).bdr.rejectedSeen = s.bdr.rejectedSeen := by
  unfold changeRecord
  try dsimp only
  (repeat' split) <;> simp

@[simp] theorem noteEpoch_frame (n : Sender) (e : Option Nat) (s : State) :
    (noteEpoch n e s).now = s.now ∧ (noteEpoch n e s).startedAt = s.startedAt ∧ (noteEpoch n e s).lif = s.lif
      ∧ (noteEpoch n e s).ptu = s.ptu ∧ (noteEpoch n e s).rgu = s.rgu ∧ (noteEpoch n e s).sau = s.sau
      ∧ (noteEpoch n e s).lfc = s.lfc ∧ (noteEpoch n e s).lfu = s.lfu ∧ (noteEpoch n e s).acu = s.acu
      ∧ (noteEpoch n e s).pbu = s.pbu ∧ (noteEpoch n e s).eva = s.eva ∧ (noteEpoch n e s).cpt = s.cpt
      ∧ (noteEpoch n e s).ssu = s.ssu ∧ (noteEpoch n e s).pending = s.pending
      ∧ (noteEpoch n e s).bdr.summary = s.bdr.summary ∧ (noteEpoch n e s).bdr.refreshNext = s.bdr.refreshNext
      ∧ (noteEpoch n e s).bdr.rejectedSeen = s.bdr.rejectedSeen := by
  unfold noteEpoch
  try dsimp only
  (repeat' split) <;> simp

@[simp] theorem noteStatus_frame (n : Sender) (r : StatusReport) (s : State) :
    (noteStatus n r s).now = s.now ∧ (noteStatus n r s).startedAt = s.startedAt ∧ (noteStatus n r s).lif = s.lif
      ∧ (noteStatus n r s).ptu = s.ptu ∧ (noteStatus n r s).rgu = s.rgu ∧ (noteStatus n r s).sau = s.sau
      ∧ (noteStatus n r s).lfc = s.lfc ∧ (noteStatus n r s).lfu = s.lfu ∧ (noteStatus n r s).acu = s.acu
      ∧ (noteStatus n r s).pbu = s.pbu ∧ (noteStatus n r s).cpt = s.cpt ∧ (noteStatus n r s).ssu = s.ssu
      ∧ (noteStatus n r s).pending = s.pending ∧ (noteStatus n r s).bdr.summary = s.bdr.summary
      ∧ (noteStatus n r s).bdr.refreshNext = s.bdr.refreshNext
      ∧ (noteStatus n r s).bdr.rejectedSeen = s.bdr.rejectedSeen := by
  unfold noteStatus
  try dsimp only
  (repeat' split) <;> simp

@[simp] theorem examineFloors_frame (s : State) :
    (examineFloors s).now = s.now ∧ (examineFloors s).startedAt = s.startedAt ∧ (examineFloors s).lif = s.lif
      ∧ (examineFloors s).bdr = s.bdr ∧ (examineFloors s).ptu = s.ptu ∧ (examineFloors s).rgu = s.rgu
      ∧ (examineFloors s).sau = s.sau ∧ (examineFloors s).lfc = s.lfc ∧ (examineFloors s).lfu = s.lfu
      ∧ (examineFloors s).acu = s.acu ∧ (examineFloors s).pbu = s.pbu ∧ (examineFloors s).cpt = s.cpt
      ∧ (examineFloors s).ssu = s.ssu ∧ (examineFloors s).pending = s.pending := by
  unfold examineFloors
  try dsimp only
  generalize List.finRange _ = l
  induction l generalizing s with
  | nil => simp
  | cons a l ih => simp only [List.foldl_cons, ih]; split <;> simp

@[simp] theorem reject_frame (n : Sender) (s : State) :
    (reject n s).now = s.now ∧ (reject n s).startedAt = s.startedAt ∧ (reject n s).lif = s.lif
      ∧ (reject n s).ptu = s.ptu ∧ (reject n s).rgu = s.rgu ∧ (reject n s).sau = s.sau ∧ (reject n s).lfc = s.lfc
      ∧ (reject n s).lfu = s.lfu ∧ (reject n s).acu = s.acu ∧ (reject n s).pbu = s.pbu ∧ (reject n s).cpt = s.cpt
      ∧ (reject n s).ssu = s.ssu ∧ (reject n s).pending = s.pending ∧ (reject n s).bdr.roster = s.bdr.roster
      ∧ (reject n s).bdr.summary = s.bdr.summary ∧ (reject n s).bdr.refreshNext = s.bdr.refreshNext := by
  simp [reject]

@[simp] theorem emptyStored_frame (s : State) :
    (emptyStored s).now = s.now ∧ (emptyStored s).startedAt = s.startedAt ∧ (emptyStored s).lif = s.lif
      ∧ (emptyStored s).bdr = s.bdr ∧ (emptyStored s).ptu = s.ptu ∧ (emptyStored s).sau = s.sau
      ∧ (emptyStored s).lfc = s.lfc ∧ (emptyStored s).lfu = s.lfu ∧ (emptyStored s).acu = s.acu
      ∧ (emptyStored s).pbu = s.pbu ∧ (emptyStored s).cpt = s.cpt ∧ (emptyStored s).ssu = s.ssu
      ∧ (emptyStored s).pending = s.pending ∧ (emptyStored s).rgu.own = s.rgu.own
      ∧ (emptyStored s).rgu.map = s.rgu.map ∧ (emptyStored s).rgu.phase = s.rgu.phase
      ∧ (emptyStored s).rgu.mode = s.rgu.mode ∧ (emptyStored s).rgu.epoch = s.rgu.epoch
      ∧ (emptyStored s).rgu.silence = s.rgu.silence := by
  simp [emptyStored]

@[simp] theorem emptyOwn_frame (s : State) :
    (emptyOwn s).now = s.now ∧ (emptyOwn s).startedAt = s.startedAt ∧ (emptyOwn s).lif = s.lif
      ∧ (emptyOwn s).bdr = s.bdr ∧ (emptyOwn s).ptu = s.ptu ∧ (emptyOwn s).sau = s.sau ∧ (emptyOwn s).lfc = s.lfc
      ∧ (emptyOwn s).lfu = s.lfu ∧ (emptyOwn s).acu = s.acu ∧ (emptyOwn s).pbu = s.pbu ∧ (emptyOwn s).cpt = s.cpt
      ∧ (emptyOwn s).ssu = s.ssu ∧ (emptyOwn s).pending = s.pending ∧ (emptyOwn s).rgu.stored = s.rgu.stored
      ∧ (emptyOwn s).rgu.map = s.rgu.map ∧ (emptyOwn s).rgu.phase = s.rgu.phase ∧ (emptyOwn s).rgu.mode = s.rgu.mode
      ∧ (emptyOwn s).rgu.epoch = s.rgu.epoch ∧ (emptyOwn s).rgu.silence = s.rgu.silence := by
  simp [emptyOwn]

@[simp] theorem withdrawReset_frame (s : State) :
    (withdrawReset s).now = s.now ∧ (withdrawReset s).startedAt = s.startedAt ∧ (withdrawReset s).bdr = s.bdr
      ∧ (withdrawReset s).ptu = s.ptu ∧ (withdrawReset s).rgu = s.rgu ∧ (withdrawReset s).sau = s.sau
      ∧ (withdrawReset s).lfc = s.lfc ∧ (withdrawReset s).lfu = s.lfu ∧ (withdrawReset s).acu = s.acu
      ∧ (withdrawReset s).pbu = s.pbu ∧ (withdrawReset s).eva = s.eva ∧ (withdrawReset s).cpt = s.cpt
      ∧ (withdrawReset s).ssu = s.ssu ∧ (withdrawReset s).pending = s.pending ∧ (withdrawReset s).lif.rx = s.lif.rx
      ∧ (withdrawReset s).lif.lineIdle = s.lif.lineIdle ∧ (withdrawReset s).lif.tx = s.lif.tx
      ∧ (withdrawReset s).lif.held = s.lif.held ∧ (withdrawReset s).lif.txFault = s.lif.txFault
      ∧ (withdrawReset s).lif.attemptOpen = s.lif.attemptOpen ∧ (withdrawReset s).lif.failures = s.lif.failures
      ∧ (withdrawReset s).lif.testSequence = s.lif.testSequence
      ∧ (withdrawReset s).lif.duplicateSeen = s.lif.duplicateSeen ∧ (withdrawReset s).lif.holdFrom = s.lif.holdFrom
      ∧ (withdrawReset s).lif.txFrom = s.lif.txFrom ∧ (withdrawReset s).lif.breakFrom = s.lif.breakFrom := by
  unfold withdrawReset
  try dsimp only
  (repeat' split) <;> simp

@[simp] theorem adoptView_frame (epoch : Nat) (cause : Option StatusReport) (s : State) :
    (adoptView epoch cause s).now = s.now ∧ (adoptView epoch cause s).startedAt = s.startedAt
      ∧ (adoptView epoch cause s).bdr = s.bdr ∧ (adoptView epoch cause s).lfc = s.lfc
      ∧ (adoptView epoch cause s).cpt = s.cpt ∧ (adoptView epoch cause s).ssu = s.ssu
      ∧ (adoptView epoch cause s).pending = s.pending ∧ (adoptView epoch cause s).lif.rx = s.lif.rx
      ∧ (adoptView epoch cause s).lif.lineIdle = s.lif.lineIdle ∧ (adoptView epoch cause s).lif.tx = s.lif.tx
      ∧ (adoptView epoch cause s).lif.held = s.lif.held ∧ (adoptView epoch cause s).lif.txFault = s.lif.txFault
      ∧ (adoptView epoch cause s).lif.attemptOpen = s.lif.attemptOpen
      ∧ (adoptView epoch cause s).lif.failures = s.lif.failures
      ∧ (adoptView epoch cause s).lif.testSequence = s.lif.testSequence
      ∧ (adoptView epoch cause s).lif.duplicateSeen = s.lif.duplicateSeen
      ∧ (adoptView epoch cause s).lif.holdFrom = s.lif.holdFrom ∧ (adoptView epoch cause s).lif.txFrom = s.lif.txFrom
      ∧ (adoptView epoch cause s).lif.breakFrom = s.lif.breakFrom ∧ (adoptView epoch cause s).rgu.phase = s.rgu.phase
      ∧ (adoptView epoch cause s).rgu.mode = s.rgu.mode ∧ (adoptView epoch cause s).sau.drainNext = s.sau.drainNext := by
  unfold adoptView
  try dsimp only
  (repeat' split) <;> simp

@[simp] theorem adoptPhase_frame (before : Phase) (s : State) :
    (adoptPhase before s).now = s.now ∧ (adoptPhase before s).startedAt = s.startedAt
      ∧ (adoptPhase before s).bdr = s.bdr ∧ (adoptPhase before s).ptu = s.ptu ∧ (adoptPhase before s).cpt = s.cpt
      ∧ (adoptPhase before s).ssu = s.ssu ∧ (adoptPhase before s).pending = s.pending
      ∧ (adoptPhase before s).lif.rx = s.lif.rx ∧ (adoptPhase before s).lif.lineIdle = s.lif.lineIdle
      ∧ (adoptPhase before s).lif.tx = s.lif.tx ∧ (adoptPhase before s).lif.held = s.lif.held
      ∧ (adoptPhase before s).lif.txFault = s.lif.txFault ∧ (adoptPhase before s).lif.attemptOpen = s.lif.attemptOpen
      ∧ (adoptPhase before s).lif.failures = s.lif.failures
      ∧ (adoptPhase before s).lif.testSequence = s.lif.testSequence
      ∧ (adoptPhase before s).lif.duplicateSeen = s.lif.duplicateSeen
      ∧ (adoptPhase before s).lif.holdFrom = s.lif.holdFrom ∧ (adoptPhase before s).lif.txFrom = s.lif.txFrom
      ∧ (adoptPhase before s).lif.breakFrom = s.lif.breakFrom ∧ (adoptPhase before s).sau.status = s.sau.status
      ∧ (adoptPhase before s).sau.queues = s.sau.queues ∧ (adoptPhase before s).sau.released = s.sau.released
      ∧ (adoptPhase before s).sau.assigned = s.sau.assigned ∧ (adoptPhase before s).sau.drainNext = s.sau.drainNext
      ∧ (adoptPhase before s).rgu.own = s.rgu.own ∧ (adoptPhase before s).rgu.stored = s.rgu.stored
      ∧ (adoptPhase before s).rgu.map = s.rgu.map ∧ (adoptPhase before s).rgu.epoch = s.rgu.epoch
      ∧ (adoptPhase before s).rgu.silence = s.rgu.silence := by
  unfold adoptPhase
  try dsimp only
  (repeat' split) <;> simp

@[simp] theorem adopt_frame (epoch : Nat) (cause : Option StatusReport) (s : State) :
    (adopt epoch cause s).now = s.now ∧ (adopt epoch cause s).startedAt = s.startedAt
      ∧ (adopt epoch cause s).bdr = s.bdr ∧ (adopt epoch cause s).cpt = s.cpt ∧ (adopt epoch cause s).ssu = s.ssu
      ∧ (adopt epoch cause s).pending = s.pending ∧ (adopt epoch cause s).lif.rx = s.lif.rx
      ∧ (adopt epoch cause s).lif.lineIdle = s.lif.lineIdle ∧ (adopt epoch cause s).lif.tx = s.lif.tx
      ∧ (adopt epoch cause s).lif.held = s.lif.held ∧ (adopt epoch cause s).lif.txFault = s.lif.txFault
      ∧ (adopt epoch cause s).lif.attemptOpen = s.lif.attemptOpen
      ∧ (adopt epoch cause s).lif.failures = s.lif.failures
      ∧ (adopt epoch cause s).lif.testSequence = s.lif.testSequence
      ∧ (adopt epoch cause s).lif.duplicateSeen = s.lif.duplicateSeen
      ∧ (adopt epoch cause s).lif.holdFrom = s.lif.holdFrom ∧ (adopt epoch cause s).lif.txFrom = s.lif.txFrom
      ∧ (adopt epoch cause s).lif.breakFrom = s.lif.breakFrom ∧ (adopt epoch cause s).sau.drainNext = s.sau.drainNext := by
  simp [adopt]

@[simp] theorem commandHeard_frame (cmd : Command) (s : State) :
    (commandHeard cmd s).now = s.now ∧ (commandHeard cmd s).startedAt = s.startedAt ∧ (commandHeard cmd s).lif = s.lif
      ∧ (commandHeard cmd s).bdr = s.bdr ∧ (commandHeard cmd s).ptu = s.ptu ∧ (commandHeard cmd s).sau = s.sau
      ∧ (commandHeard cmd s).cpt = s.cpt ∧ (commandHeard cmd s).ssu = s.ssu ∧ (commandHeard cmd s).pending = s.pending
      ∧ (commandHeard cmd s).rgu.own = s.rgu.own ∧ (commandHeard cmd s).rgu.stored = s.rgu.stored
      ∧ (commandHeard cmd s).rgu.map = s.rgu.map ∧ (commandHeard cmd s).rgu.phase = s.rgu.phase
      ∧ (commandHeard cmd s).rgu.mode = s.rgu.mode ∧ (commandHeard cmd s).rgu.epoch = s.rgu.epoch := by
  unfold commandHeard
  try dsimp only
  (repeat' split) <;> simp

@[simp] theorem stairContent_frame (st : Stair) (status : StairStatus) (s : State) :
    (stairContent st status s).now = s.now ∧ (stairContent st status s).startedAt = s.startedAt
      ∧ (stairContent st status s).lif = s.lif ∧ (stairContent st status s).bdr = s.bdr
      ∧ (stairContent st status s).ptu = s.ptu ∧ (stairContent st status s).rgu = s.rgu
      ∧ (stairContent st status s).lfu = s.lfu ∧ (stairContent st status s).acu = s.acu
      ∧ (stairContent st status s).pbu = s.pbu ∧ (stairContent st status s).cpt = s.cpt
      ∧ (stairContent st status s).ssu = s.ssu ∧ (stairContent st status s).pending = s.pending
      ∧ (stairContent st status s).sau.smokeOffer = s.sau.smokeOffer
      ∧ (stairContent st status s).sau.queues = s.sau.queues
      ∧ (stairContent st status s).sau.released = s.sau.released
      ∧ (stairContent st status s).sau.assigned = s.sau.assigned ∧ (stairContent st status s).sau.claim = s.sau.claim
      ∧ (stairContent st status s).sau.drainNext = s.sau.drainNext
      ∧ (stairContent st status s).lfc.unlockAll = s.lfc.unlockAll := by
  unfold stairContent
  try dsimp only
  (repeat' split) <;> simp

@[simp] theorem handOn_frame (c : Content) (sender : Sender) (sentHere gather : Bool) (s : State) :
    (handOn c sender sentHere gather s).now = s.now ∧ (handOn c sender sentHere gather s).startedAt = s.startedAt
      ∧ (handOn c sender sentHere gather s).bdr = s.bdr ∧ (handOn c sender sentHere gather s).ptu = s.ptu
      ∧ (handOn c sender sentHere gather s).ssu = s.ssu ∧ (handOn c sender sentHere gather s).pending = s.pending
      ∧ (handOn c sender sentHere gather s).lif.rx = s.lif.rx
      ∧ (handOn c sender sentHere gather s).lif.lineIdle = s.lif.lineIdle
      ∧ (handOn c sender sentHere gather s).lif.tx = s.lif.tx
      ∧ (handOn c sender sentHere gather s).lif.held = s.lif.held
      ∧ (handOn c sender sentHere gather s).lif.txFault = s.lif.txFault
      ∧ (handOn c sender sentHere gather s).lif.attemptOpen = s.lif.attemptOpen
      ∧ (handOn c sender sentHere gather s).lif.failures = s.lif.failures
      ∧ (handOn c sender sentHere gather s).lif.testSequence = s.lif.testSequence
      ∧ (handOn c sender sentHere gather s).lif.duplicateSeen = s.lif.duplicateSeen
      ∧ (handOn c sender sentHere gather s).lif.holdFrom = s.lif.holdFrom
      ∧ (handOn c sender sentHere gather s).lif.txFrom = s.lif.txFrom
      ∧ (handOn c sender sentHere gather s).lif.breakFrom = s.lif.breakFrom
      ∧ (handOn c sender sentHere gather s).rgu.own = s.rgu.own
      ∧ (handOn c sender sentHere gather s).rgu.phase = s.rgu.phase
      ∧ (handOn c sender sentHere gather s).rgu.mode = s.rgu.mode
      ∧ (handOn c sender sentHere gather s).rgu.epoch = s.rgu.epoch
      ∧ (handOn c sender sentHere gather s).sau.drainNext = s.sau.drainNext := by
  unfold handOn
  try dsimp only
  (repeat' split) <;> simp

@[simp] theorem noteContent_frame (c : Content) (sender : Sender) (sentHere : Bool) (s : State) :
    (noteContent c sender sentHere s).now = s.now ∧ (noteContent c sender sentHere s).startedAt = s.startedAt
      ∧ (noteContent c sender sentHere s).lif = s.lif ∧ (noteContent c sender sentHere s).ptu = s.ptu
      ∧ (noteContent c sender sentHere s).rgu = s.rgu ∧ (noteContent c sender sentHere s).sau = s.sau
      ∧ (noteContent c sender sentHere s).lfc = s.lfc ∧ (noteContent c sender sentHere s).lfu = s.lfu
      ∧ (noteContent c sender sentHere s).acu = s.acu ∧ (noteContent c sender sentHere s).pbu = s.pbu
      ∧ (noteContent c sender sentHere s).cpt = s.cpt ∧ (noteContent c sender sentHere s).ssu = s.ssu
      ∧ (noteContent c sender sentHere s).pending = s.pending
      ∧ (noteContent c sender sentHere s).bdr.refreshNext = s.bdr.refreshNext
      ∧ (noteContent c sender sentHere s).bdr.rejectedSeen = s.bdr.rejectedSeen := by
  unfold noteContent
  try dsimp only
  (repeat' split) <;> simp

@[simp] theorem endJoining_frame (s : State) :
    (endJoining s).now = s.now ∧ (endJoining s).startedAt = s.startedAt ∧ (endJoining s).bdr = s.bdr
      ∧ (endJoining s).ptu = s.ptu ∧ (endJoining s).lfu = s.lfu ∧ (endJoining s).cpt = s.cpt
      ∧ (endJoining s).pending = s.pending ∧ (endJoining s).lif.rx = s.lif.rx
      ∧ (endJoining s).lif.lineIdle = s.lif.lineIdle ∧ (endJoining s).lif.tx = s.lif.tx
      ∧ (endJoining s).lif.held = s.lif.held ∧ (endJoining s).lif.txFault = s.lif.txFault
      ∧ (endJoining s).lif.attemptOpen = s.lif.attemptOpen ∧ (endJoining s).lif.failures = s.lif.failures
      ∧ (endJoining s).lif.testSequence = s.lif.testSequence ∧ (endJoining s).lif.duplicateSeen = s.lif.duplicateSeen
      ∧ (endJoining s).lif.holdFrom = s.lif.holdFrom ∧ (endJoining s).lif.txFrom = s.lif.txFrom
      ∧ (endJoining s).lif.breakFrom = s.lif.breakFrom ∧ (endJoining s).sau.status = s.sau.status
      ∧ (endJoining s).sau.smokeOffer = s.sau.smokeOffer ∧ (endJoining s).sau.queues = s.sau.queues
      ∧ (endJoining s).sau.released = s.sau.released ∧ (endJoining s).sau.assigned = s.sau.assigned
      ∧ (endJoining s).sau.drainNext = s.sau.drainNext ∧ (endJoining s).rgu.own = s.rgu.own
      ∧ (endJoining s).rgu.stored = s.rgu.stored ∧ (endJoining s).rgu.map = s.rgu.map
      ∧ (endJoining s).rgu.epoch = s.rgu.epoch ∧ (endJoining s).rgu.silence = s.rgu.silence
      ∧ (endJoining s).ssu.stage = s.ssu.stage ∧ (endJoining s).ssu.station = s.ssu.station
      ∧ (endJoining s).ssu.supply = s.ssu.supply ∧ (endJoining s).ssu.mainsFailed = s.ssu.mainsFailed
      ∧ (endJoining s).ssu.batteryLow = s.ssu.batteryLow ∧ (endJoining s).ssu.expiries = s.ssu.expiries
      ∧ (endJoining s).ssu.config = s.ssu.config ∧ (endJoining s).lfc.unlockAll = s.lfc.unlockAll := by
  simp [endJoining]

@[simp] theorem joinFrom_frame (c : Content) (sentHere adopted : Bool) (s : State) :
    (joinFrom c sentHere adopted s).now = s.now ∧ (joinFrom c sentHere adopted s).startedAt = s.startedAt
      ∧ (joinFrom c sentHere adopted s).bdr = s.bdr ∧ (joinFrom c sentHere adopted s).ptu = s.ptu
      ∧ (joinFrom c sentHere adopted s).lfu = s.lfu ∧ (joinFrom c sentHere adopted s).cpt = s.cpt
      ∧ (joinFrom c sentHere adopted s).pending = s.pending ∧ (joinFrom c sentHere adopted s).lif.rx = s.lif.rx
      ∧ (joinFrom c sentHere adopted s).lif.lineIdle = s.lif.lineIdle
      ∧ (joinFrom c sentHere adopted s).lif.tx = s.lif.tx ∧ (joinFrom c sentHere adopted s).lif.held = s.lif.held
      ∧ (joinFrom c sentHere adopted s).lif.txFault = s.lif.txFault
      ∧ (joinFrom c sentHere adopted s).lif.attemptOpen = s.lif.attemptOpen
      ∧ (joinFrom c sentHere adopted s).lif.failures = s.lif.failures
      ∧ (joinFrom c sentHere adopted s).lif.testSequence = s.lif.testSequence
      ∧ (joinFrom c sentHere adopted s).lif.duplicateSeen = s.lif.duplicateSeen
      ∧ (joinFrom c sentHere adopted s).lif.holdFrom = s.lif.holdFrom
      ∧ (joinFrom c sentHere adopted s).lif.txFrom = s.lif.txFrom
      ∧ (joinFrom c sentHere adopted s).lif.breakFrom = s.lif.breakFrom
      ∧ (joinFrom c sentHere adopted s).rgu.own = s.rgu.own
      ∧ (joinFrom c sentHere adopted s).rgu.stored = s.rgu.stored
      ∧ (joinFrom c sentHere adopted s).rgu.map = s.rgu.map ∧ (joinFrom c sentHere adopted s).rgu.epoch = s.rgu.epoch
      ∧ (joinFrom c sentHere adopted s).rgu.silence = s.rgu.silence
      ∧ (joinFrom c sentHere adopted s).sau.smokeOffer = s.sau.smokeOffer
      ∧ (joinFrom c sentHere adopted s).sau.drainNext = s.sau.drainNext
      ∧ (joinFrom c sentHere adopted s).ssu.stage = s.ssu.stage
      ∧ (joinFrom c sentHere adopted s).ssu.station = s.ssu.station
      ∧ (joinFrom c sentHere adopted s).ssu.supply = s.ssu.supply
      ∧ (joinFrom c sentHere adopted s).ssu.mainsFailed = s.ssu.mainsFailed
      ∧ (joinFrom c sentHere adopted s).ssu.batteryLow = s.ssu.batteryLow
      ∧ (joinFrom c sentHere adopted s).ssu.expiries = s.ssu.expiries
      ∧ (joinFrom c sentHere adopted s).ssu.config = s.ssu.config
      ∧ (joinFrom c sentHere adopted s).lfc.unlockAll = s.lfc.unlockAll := by
  unfold joinFrom
  try dsimp only
  (repeat' split) <;> simp

@[simp] theorem handle_frame (c : Content) (sender : Sender) (sentHere adopted : Bool) (s : State) :
    (handle c sender sentHere adopted s).now = s.now ∧ (handle c sender sentHere adopted s).startedAt = s.startedAt
      ∧ (handle c sender sentHere adopted s).ptu = s.ptu ∧ (handle c sender sentHere adopted s).pending = s.pending
      ∧ (handle c sender sentHere adopted s).lif.rx = s.lif.rx
      ∧ (handle c sender sentHere adopted s).lif.lineIdle = s.lif.lineIdle
      ∧ (handle c sender sentHere adopted s).lif.tx = s.lif.tx
      ∧ (handle c sender sentHere adopted s).lif.held = s.lif.held
      ∧ (handle c sender sentHere adopted s).lif.txFault = s.lif.txFault
      ∧ (handle c sender sentHere adopted s).lif.attemptOpen = s.lif.attemptOpen
      ∧ (handle c sender sentHere adopted s).lif.failures = s.lif.failures
      ∧ (handle c sender sentHere adopted s).lif.testSequence = s.lif.testSequence
      ∧ (handle c sender sentHere adopted s).lif.duplicateSeen = s.lif.duplicateSeen
      ∧ (handle c sender sentHere adopted s).lif.holdFrom = s.lif.holdFrom
      ∧ (handle c sender sentHere adopted s).lif.txFrom = s.lif.txFrom
      ∧ (handle c sender sentHere adopted s).lif.breakFrom = s.lif.breakFrom
      ∧ (handle c sender sentHere adopted s).rgu.own = s.rgu.own
      ∧ (handle c sender sentHere adopted s).rgu.epoch = s.rgu.epoch
      ∧ (handle c sender sentHere adopted s).sau.drainNext = s.sau.drainNext
      ∧ (handle c sender sentHere adopted s).bdr.refreshNext = s.bdr.refreshNext
      ∧ (handle c sender sentHere adopted s).bdr.rejectedSeen = s.bdr.rejectedSeen
      ∧ (handle c sender sentHere adopted s).ssu.stage = s.ssu.stage
      ∧ (handle c sender sentHere adopted s).ssu.station = s.ssu.station
      ∧ (handle c sender sentHere adopted s).ssu.supply = s.ssu.supply
      ∧ (handle c sender sentHere adopted s).ssu.mainsFailed = s.ssu.mainsFailed
      ∧ (handle c sender sentHere adopted s).ssu.batteryLow = s.ssu.batteryLow
      ∧ (handle c sender sentHere adopted s).ssu.expiries = s.ssu.expiries
      ∧ (handle c sender sentHere adopted s).ssu.config = s.ssu.config := by
  unfold handle
  try dsimp only
  (repeat' split) <;> simp

@[simp] theorem dispatchContent_frame (c : Content) (sender : Sender) (sentHere : Bool) (s : State) :
    (dispatchContent c sender sentHere s).now = s.now ∧ (dispatchContent c sender sentHere s).startedAt = s.startedAt
      ∧ (dispatchContent c sender sentHere s).pending = s.pending
      ∧ (dispatchContent c sender sentHere s).lif.rx = s.lif.rx
      ∧ (dispatchContent c sender sentHere s).lif.lineIdle = s.lif.lineIdle
      ∧ (dispatchContent c sender sentHere s).lif.tx = s.lif.tx
      ∧ (dispatchContent c sender sentHere s).lif.held = s.lif.held
      ∧ (dispatchContent c sender sentHere s).lif.txFault = s.lif.txFault
      ∧ (dispatchContent c sender sentHere s).lif.attemptOpen = s.lif.attemptOpen
      ∧ (dispatchContent c sender sentHere s).lif.failures = s.lif.failures
      ∧ (dispatchContent c sender sentHere s).lif.testSequence = s.lif.testSequence
      ∧ (dispatchContent c sender sentHere s).lif.duplicateSeen = s.lif.duplicateSeen
      ∧ (dispatchContent c sender sentHere s).lif.holdFrom = s.lif.holdFrom
      ∧ (dispatchContent c sender sentHere s).lif.txFrom = s.lif.txFrom
      ∧ (dispatchContent c sender sentHere s).lif.breakFrom = s.lif.breakFrom
      ∧ (dispatchContent c sender sentHere s).sau.drainNext = s.sau.drainNext
      ∧ (dispatchContent c sender sentHere s).bdr.refreshNext = s.bdr.refreshNext
      ∧ (dispatchContent c sender sentHere s).bdr.rejectedSeen = s.bdr.rejectedSeen
      ∧ (dispatchContent c sender sentHere s).ssu.stage = s.ssu.stage
      ∧ (dispatchContent c sender sentHere s).ssu.station = s.ssu.station
      ∧ (dispatchContent c sender sentHere s).ssu.supply = s.ssu.supply
      ∧ (dispatchContent c sender sentHere s).ssu.mainsFailed = s.ssu.mainsFailed
      ∧ (dispatchContent c sender sentHere s).ssu.batteryLow = s.ssu.batteryLow
      ∧ (dispatchContent c sender sentHere s).ssu.expiries = s.ssu.expiries
      ∧ (dispatchContent c sender sentHere s).ssu.config = s.ssu.config := by
  unfold dispatchContent
  try dsimp only
  (repeat' split) <;> simp

@[simp] theorem dispatch_frame (h : Heard) (sentHere : Bool) (s : State) :
    (dispatch h sentHere s).now = s.now ∧ (dispatch h sentHere s).startedAt = s.startedAt
      ∧ (dispatch h sentHere s).pending = s.pending ∧ (dispatch h sentHere s).lif.rx = s.lif.rx
      ∧ (dispatch h sentHere s).lif.lineIdle = s.lif.lineIdle ∧ (dispatch h sentHere s).lif.tx = s.lif.tx
      ∧ (dispatch h sentHere s).lif.held = s.lif.held ∧ (dispatch h sentHere s).lif.txFault = s.lif.txFault
      ∧ (dispatch h sentHere s).lif.attemptOpen = s.lif.attemptOpen
      ∧ (dispatch h sentHere s).lif.failures = s.lif.failures
      ∧ (dispatch h sentHere s).lif.testSequence = s.lif.testSequence
      ∧ (dispatch h sentHere s).lif.duplicateSeen = s.lif.duplicateSeen
      ∧ (dispatch h sentHere s).lif.holdFrom = s.lif.holdFrom ∧ (dispatch h sentHere s).lif.txFrom = s.lif.txFrom
      ∧ (dispatch h sentHere s).lif.breakFrom = s.lif.breakFrom
      ∧ (dispatch h sentHere s).sau.drainNext = s.sau.drainNext
      ∧ (dispatch h sentHere s).bdr.refreshNext = s.bdr.refreshNext ∧ (dispatch h sentHere s).ssu.stage = s.ssu.stage
      ∧ (dispatch h sentHere s).ssu.station = s.ssu.station ∧ (dispatch h sentHere s).ssu.supply = s.ssu.supply
      ∧ (dispatch h sentHere s).ssu.mainsFailed = s.ssu.mainsFailed
      ∧ (dispatch h sentHere s).ssu.batteryLow = s.ssu.batteryLow
      ∧ (dispatch h sentHere s).ssu.expiries = s.ssu.expiries ∧ (dispatch h sentHere s).ssu.config = s.ssu.config := by
  unfold dispatch
  try dsimp only
  (repeat' split) <;> simp

@[simp] theorem ageRecord_frame (n : Sender) (s : State) :
    (ageRecord n s).now = s.now ∧ (ageRecord n s).startedAt = s.startedAt ∧ (ageRecord n s).ptu = s.ptu
      ∧ (ageRecord n s).rgu = s.rgu ∧ (ageRecord n s).sau = s.sau ∧ (ageRecord n s).lfc = s.lfc
      ∧ (ageRecord n s).lfu = s.lfu ∧ (ageRecord n s).cpt = s.cpt ∧ (ageRecord n s).ssu = s.ssu
      ∧ (ageRecord n s).pending = s.pending ∧ (ageRecord n s).lif.rx = s.lif.rx
      ∧ (ageRecord n s).lif.lineIdle = s.lif.lineIdle ∧ (ageRecord n s).lif.tx = s.lif.tx
      ∧ (ageRecord n s).lif.held = s.lif.held ∧ (ageRecord n s).lif.txFault = s.lif.txFault
      ∧ (ageRecord n s).lif.attemptOpen = s.lif.attemptOpen ∧ (ageRecord n s).lif.failures = s.lif.failures
      ∧ (ageRecord n s).lif.testSequence = s.lif.testSequence
      ∧ (ageRecord n s).lif.duplicateSeen = s.lif.duplicateSeen ∧ (ageRecord n s).lif.holdFrom = s.lif.holdFrom
      ∧ (ageRecord n s).lif.txFrom = s.lif.txFrom ∧ (ageRecord n s).lif.breakFrom = s.lif.breakFrom
      ∧ (ageRecord n s).bdr.summary = s.bdr.summary ∧ (ageRecord n s).bdr.refreshNext = s.bdr.refreshNext
      ∧ (ageRecord n s).bdr.rejectedSeen = s.bdr.rejectedSeen := by
  unfold ageRecord
  try dsimp only
  (repeat' split) <;> simp

@[simp] theorem ageRoster_frame (s : State) :
    (ageRoster s).now = s.now ∧ (ageRoster s).startedAt = s.startedAt ∧ (ageRoster s).ptu = s.ptu
      ∧ (ageRoster s).rgu = s.rgu ∧ (ageRoster s).sau = s.sau ∧ (ageRoster s).lfc = s.lfc ∧ (ageRoster s).lfu = s.lfu
      ∧ (ageRoster s).cpt = s.cpt ∧ (ageRoster s).ssu = s.ssu ∧ (ageRoster s).pending = s.pending
      ∧ (ageRoster s).lif.rx = s.lif.rx ∧ (ageRoster s).lif.lineIdle = s.lif.lineIdle
      ∧ (ageRoster s).lif.tx = s.lif.tx ∧ (ageRoster s).lif.held = s.lif.held
      ∧ (ageRoster s).lif.txFault = s.lif.txFault ∧ (ageRoster s).lif.attemptOpen = s.lif.attemptOpen
      ∧ (ageRoster s).lif.failures = s.lif.failures ∧ (ageRoster s).lif.testSequence = s.lif.testSequence
      ∧ (ageRoster s).lif.duplicateSeen = s.lif.duplicateSeen ∧ (ageRoster s).lif.holdFrom = s.lif.holdFrom
      ∧ (ageRoster s).lif.txFrom = s.lif.txFrom ∧ (ageRoster s).lif.breakFrom = s.lif.breakFrom
      ∧ (ageRoster s).bdr.summary = s.bdr.summary ∧ (ageRoster s).bdr.refreshNext = s.bdr.refreshNext
      ∧ (ageRoster s).bdr.rejectedSeen = s.bdr.rejectedSeen := by
  unfold ageRoster
  try dsimp only
  generalize List.finRange _ = l
  induction l generalizing s with
  | nil => simp
  | cons a l ih =>
    simp only [List.foldl_cons]
    simp [ih]

@[simp] theorem examineRejected_frame (s : State) :
    (examineRejected s).now = s.now ∧ (examineRejected s).startedAt = s.startedAt ∧ (examineRejected s).lif = s.lif
      ∧ (examineRejected s).ptu = s.ptu ∧ (examineRejected s).rgu = s.rgu ∧ (examineRejected s).sau = s.sau
      ∧ (examineRejected s).lfc = s.lfc ∧ (examineRejected s).lfu = s.lfu ∧ (examineRejected s).acu = s.acu
      ∧ (examineRejected s).pbu = s.pbu ∧ (examineRejected s).cpt = s.cpt ∧ (examineRejected s).ssu = s.ssu
      ∧ (examineRejected s).pending = s.pending ∧ (examineRejected s).bdr.roster = s.bdr.roster
      ∧ (examineRejected s).bdr.summary = s.bdr.summary ∧ (examineRejected s).bdr.refreshNext = s.bdr.refreshNext := by
  unfold examineRejected
  have h := clearEach_frame (fun n => s.bdr.rejectedSeen[n]) Source.station .bulletinRejected (List.finRange 63)
    (s.setBdr fun b => { b with rejectedSeen := Vector.replicate 63 false })
  simpa using h

end Sys2Proof.Machine
end

