-- ==== Sys2Proof/Laws/Events.lean ====
section
/-! SUPPORT. What raising and clearing do to the conditions that are active, and to the event list (R181 to R185). -/

namespace Sys2Proof.Machine

/-! ## Sources (R181) -/

/-- No two sources have one number. -/
theorem sourceNumber_injective {a b : Source} (h : sourceNumber a = sourceNumber b) : a = b := by
  rcases a with p | st | ⟨ba, c⟩ | ba | n | (_ | _ | _ | _ | _ | _) <;>
    rcases b with p' | st' | ⟨ba', c'⟩ | ba' | n' | (_ | _ | _ | _ | _ | _) <;>
    simp only [sourceNumber, number, Source.point.injEq, Source.leaf.injEq, Source.car.injEq, Source.bank.injEq,
      Source.station.injEq, Fin.ext_iff] at h ⊢ <;> omega

/-! ## The list (R182) -/

theorem find_putEntry_self (e : EventEntry) (l : List EventEntry) :
    (putEntry e l).find? (fun x => x.source == e.source) = some e := by
  induction l with
  | nil => simp [putEntry]
  | cons x l ih =>
    unfold putEntry
    split
    · simp
    · split
      · simp
      · simp [*]

theorem find_putEntry_other (e : EventEntry) (l : List EventEntry) {src : Source} (h : src ≠ e.source) :
    (putEntry e l).find? (fun x => x.source == src) = l.find? fun x => x.source == src := by
  have he : (e.source == src) = false := by simpa using Ne.symm h
  induction l with
  | nil => simp [putEntry, he]
  | cons x l ih =>
    unfold putEntry
    split
    · rename_i hx
      have : (x.source == src) = false := by rw [hx]; exact he
      simp [this, he]
    · split
      · simp [List.find?_cons, he]
      · simp [List.find?_cons, ih]

theorem find_dropEntry_self (src : Source) (l : List EventEntry) :
    (dropEntry src l).find? (fun x => x.source == src) = none := by
  simp [dropEntry]

theorem find_dropEntry_other (l : List EventEntry) {src other : Source} (h : other ≠ src) :
    (dropEntry src l).find? (fun x => x.source == other) = l.find? fun x => x.source == other := by
  induction l with
  | nil => simp [dropEntry]
  | cons x l ih =>
    unfold dropEntry at ih ⊢
    by_cases hx : x.source = src
    · have : (x.source == other) = false := by rw [hx]; simpa using Ne.symm h
      simp [hx, ih, Ne.symm h]
    · have : (x.source != src) = true := by simpa using hx
      simp [this, List.find?_cons, ih]

@[simp] theorem annunciate_entries (s : State) : s.annunciate.eva.entries = s.eva.entries := by
  unfold State.annunciate
  split <;> simp

@[simp] theorem annunciate_mask (s : State) : s.annunciate.eva.mask = s.eva.mask := by
  unfold State.annunciate
  split <;> simp

@[simp] theorem setEntries_entries (s : State) (l : List EventEntry) : (s.setEntries l).eva.entries = l := by
  simp [State.setEntries]

@[simp] theorem setEntries_mask (s : State) (l : List EventEntry) : (s.setEntries l).eva.mask = s.eva.mask := by
  simp [State.setEntries]

/-- The buzzer sounds the class that the list and the mask give. -/
theorem annunciate_sounding (s : State) : s.annunciate.eva.sounding = s.annunciate.eva.sounded := by
  unfold State.annunciate
  split
  · simp_all
  · simp [Eva.sounded]

/-! ## The entry of a source -/

/-- The entry of a source names it. -/
theorem entry_source {v : Eva} {src : Source} {e : EventEntry} (h : v.entry src = some e) : e.source = src := by
  have := List.find?_some h
  simpa using this

theorem withoutCondition_source {e e' : EventEntry} {c : Condition} (h : e.withoutCondition c = some e') :
    e'.source = e.source := by
  unfold EventEntry.withoutCondition at h
  split at h
  · split at h
    · simp at h
    · obtain rfl := Option.some.inj h; rfl
  · obtain rfl := Option.some.inj h; rfl

/-- The conditions of an entry, none where it is absent. -/
def conditionsOf (e : Option EventEntry) : List Condition := e.elim [] (·.active)

theorem conditionsOf_withoutCondition (e : EventEntry) (c : Condition) :
    conditionsOf (e.withoutCondition c) = e.active.filter fun x => x != c := by
  unfold EventEntry.withoutCondition
  split
  · rename_i h
    split <;> simp [conditionsOf, h]
  · simp [conditionsOf]

/-- Raising leaves the entries of other sources as they were. -/
theorem entry_raise_other (src : Source) (c : Condition) (s : State) {other : Source} (h : other ≠ src) :
    (raise src c s).eva.entry other = s.eva.entry other := by
  unfold raise
  split
  · simp only [Eva.entry, setEntries_entries]
    exact find_putEntry_other _ _ h
  · split
    · rfl
    · rename_i e he _
      simp only [Eva.entry, setEntries_entries]
      exact find_putEntry_other _ _ (by simpa [EventEntry.withCondition, entry_source he] using h)

/-- Clearing leaves the entries of other sources as they were. -/
theorem entry_clear_other (src : Source) (c : Condition) (s : State) {other : Source} (h : other ≠ src) :
    (clear src c s).eva.entry other = s.eva.entry other := by
  unfold clear
  split
  · rfl
  · rename_i e he
    split
    · split
      · rename_i e' he'
        simp only [Eva.entry, setEntries_entries]
        exact find_putEntry_other _ _ (by rwa [withoutCondition_source he', entry_source he])
      · simp only [Eva.entry, setEntries_entries]
        exact find_dropEntry_other _ h
    · rfl

/-- What raising makes of an entry (R183). -/
def raisedEntry (src : Source) (c : Condition) (first : Nat) : Option EventEntry → EventEntry
  | none => newEntry src c first
  | some e => if e.active.contains c then e else e.withCondition c

/-- The entry of a source after a condition was raised on it (R183). -/
theorem entry_raise (src : Source) (c : Condition) (s : State) :
    (raise src c s).eva.entry src = some (raisedEntry src c s.firstOccurrence (s.eva.entry src)) := by
  unfold raise
  split
  · rename_i he
    rw [he]
    simp only [Eva.entry, setEntries_entries, raisedEntry]
    exact find_putEntry_self (newEntry src c s.firstOccurrence) _
  · rename_i e he
    rw [he]
    simp only [raisedEntry]
    split
    · exact he
    · have := find_putEntry_self (e.withCondition c) s.eva.entries
      have hs : (e.withCondition c).source = src := entry_source (e := e) he
      rw [hs] at this
      simpa only [Eva.entry, setEntries_entries] using this

/-- What clearing makes of an entry (R184). -/
def clearedEntry (c : Condition) (e : EventEntry) : Option EventEntry :=
  if e.active.contains c then e.withoutCondition c else some e

/-- The entry of a source after a condition was cleared on it (R184). -/
theorem entry_clear (src : Source) (c : Condition) (s : State) :
    (clear src c s).eva.entry src = (s.eva.entry src).bind (clearedEntry c) := by
  unfold clear
  split
  · rename_i he
    rw [he]; rfl
  · rename_i e he
    rw [he]
    simp only [Option.bind_some, clearedEntry]
    split
    · split
      · rename_i e' he'
        have := find_putEntry_self e' s.eva.entries
        rw [withoutCondition_source he', entry_source he] at this
        simpa only [Eva.entry, setEntries_entries, he'] using this
      · rename_i he'
        have := find_dropEntry_self src s.eva.entries
        simpa only [Eva.entry, setEntries_entries, he'] using this
    · exact he

/-! ## The active conditions -/

theorem active_eq (s : State) (src : Source) (c : Condition) :
    s.active src c = (conditionsOf (s.eva.entry src)).contains c := by
  unfold State.active conditionsOf
  split <;> simp_all

/-- The conditions of an entry after a raising. -/
theorem contains_raised (src : Source) (c d : Condition) (first : Nat) (e : Option EventEntry) :
    (conditionsOf (some (raisedEntry src c first e))).contains d = ((conditionsOf e).contains d || d == c) := by
  cases e with
  | none => rw [Bool.eq_iff_iff]; simp [conditionsOf, raisedEntry, newEntry]
  | some e =>
    simp only [conditionsOf, raisedEntry, Option.elim]
    split
    · rename_i h
      by_cases hd : d = c
      · subst hd; simpa using h
      · simp [hd]
    · rw [Bool.eq_iff_iff]; simp [EventEntry.withCondition]

/-- The conditions of an entry after a clearing. -/
theorem contains_cleared (c d : Condition) (e : Option EventEntry) :
    (conditionsOf (e.bind (clearedEntry c))).contains d = ((conditionsOf e).contains d && d != c) := by
  cases e with
  | none => rfl
  | some e =>
    simp only [Option.bind_some, clearedEntry]
    split
    · rw [conditionsOf_withoutCondition, Bool.eq_iff_iff]; simp [conditionsOf]
    · rename_i h
      by_cases hd : d = c
      · subst hd; simpa [conditionsOf] using h
      · simp [hd]

/-- Whether a condition is active after a condition was raised. -/
theorem active_raise (src : Source) (c : Condition) (s : State) (other : Source) (d : Condition) :
    (raise src c s).active other d = (s.active other d || (other == src && d == c)) := by
  rw [active_eq, active_eq]
  by_cases h : other = src
  · subst h; rw [entry_raise, contains_raised]; simp
  · rw [entry_raise_other _ _ _ h]; simp [h]

/-- Whether a condition is active after a condition was cleared. -/
theorem active_clear (src : Source) (c : Condition) (s : State) (other : Source) (d : Condition) :
    (clear src c s).active other d = (s.active other d && !(other == src && d == c)) := by
  rw [active_eq, active_eq]
  by_cases h : other = src
  · subst h; rw [entry_clear, contains_cleared]; simp; rfl
  · rw [entry_clear_other _ _ _ h]; simp [h]

/-- Whether a condition is active after a condition was kept. -/
theorem active_keep (on : Bool) (src : Source) (c : Condition) (s : State) (other : Source) (d : Condition) :
    (keep on src c s).active other d = if other = src ∧ d = c then on else s.active other d := by
  cases on <;> by_cases h : other = src <;> by_cases hd : d = c <;>
    simp [keep, active_raise, active_clear, h, hd]

/-! ## The list stays as R181 and R182 describe it -/

theorem putEntry_mem {x e : EventEntry} {l : List EventEntry} (h : x ∈ putEntry e l) : x = e ∨ x ∈ l := by
  induction l with
  | nil => simpa [putEntry] using h
  | cons y l ih =>
    unfold putEntry at h
    split at h
    · simp only [List.mem_cons] at h ⊢; tauto
    · split at h
      · simpa using h
      · simp only [List.mem_cons] at h ⊢
        rcases h with h | h
        · exact .inr (.inl h)
        · rcases ih h with h | h <;> tauto

/-- Putting an entry in place keeps the order of the source numbers. -/
theorem putEntry_sorted (e : EventEntry) {l : List EventEntry}
    (h : (l.map fun x => sourceNumber x.source).Pairwise (· < ·)) :
    ((putEntry e l).map fun x => sourceNumber x.source).Pairwise (· < ·) := by
  induction l with
  | nil => simp [putEntry]
  | cons y l ih =>
    simp only [List.map_cons, List.pairwise_cons, List.mem_map, forall_exists_index, and_imp,
      forall_apply_eq_imp_iff₂] at h
    unfold putEntry
    split
    · rename_i hy
      simp only [List.map_cons, List.pairwise_cons, List.mem_map, forall_exists_index, and_imp,
        forall_apply_eq_imp_iff₂]
      exact ⟨fun a ha => hy ▸ h.1 a ha, h.2⟩
    · rename_i hy
      split
      · rename_i hlt
        simp only [List.map_cons, List.pairwise_cons, List.mem_cons, List.mem_map, forall_eq_or_imp,
          forall_exists_index, and_imp, forall_apply_eq_imp_iff₂]
        exact ⟨⟨hlt, fun a ha => hlt.trans (h.1 a ha)⟩, h⟩
      · rename_i hlt
        have hne : sourceNumber y.source ≠ sourceNumber e.source := fun he => hy (sourceNumber_injective he)
        simp only [List.map_cons, List.pairwise_cons, List.mem_map, forall_exists_index, and_imp,
          forall_apply_eq_imp_iff₂]
        refine ⟨fun a ha => ?_, ih h.2⟩
        rcases putEntry_mem ha with rfl | ha
        · omega
        · exact h.1 a ha

end Sys2Proof.Machine
end

