-- ==== Sys2Proof/Laws/Finish.lean ====
section
/-! SUPPORT. What every command ends with: it changes nothing where a queued STATUS, the own roster record and the
LIFTs already carry what the station holds. -/

namespace Sys2Proof.Machine

/-- The values of a STATUS come from four blocks alone. -/
theorem statusReport_congr {s t : State} (hr : t.rgu = s.rgu) (ha : t.sau = s.sau) (hu : t.ssu = s.ssu) :
    t.statusReport = s.statusReport := by
  simp [State.statusReport, State.ownFloor, State.hasStair, hr, ha, hu]

/-- The LIFT of a bank comes from the Lift Unit and the configuration alone. -/
theorem lift?_congr {s t : State} (hl : t.lfu = s.lfu) (hu : t.ssu = s.ssu) (b : Bank) : t.lift? b = s.lift? b := by
  simp [State.lift?, hl, hu]

/-- What keeps the queued STATUS and the values that it carries keeps the station settled. -/
theorem State.settled_congr {s t : State} (h : s.settled) (hq : t.lif.inSlot .status = s.lif.inSlot .status)
    (hb : t.bdr.roster = s.bdr.roster) (hr : t.rgu = s.rgu) (ha : t.sau = s.sau) (hu : t.ssu = s.ssu) : t.settled := by
  have hs := statusReport_congr hr ha hu
  obtain ⟨h1, h2⟩ := h
  refine ⟨?_, ?_⟩
  · rw [hq, hs]; exact h1
  · intro he n hn r hr'
    rw [hu] at hn
    have := h2 (by simpa [State.entered, hu] using he) n hn r (by simpa [hb] using hr')
    simpa [State.ownFloor, hr, hu] using this

/-- A settled station's STATUS is not composed again. -/
theorem followStatus_settled {s : State} (h : s.settled) : followStatus s = s := by
  unfold followStatus
  split
  · rename_i e he
    simp [h.1 e (by simp [he])]
  · rfl

/-- A settled station's own record stays as it is. -/
theorem followOwnRecord_settled {s : State} (h : s.settled) (he : s.entered = true) : followOwnRecord s = s := by
  unfold followOwnRecord
  split
  · rename_i n hn
    split
    · rename_i r hr
      obtain ⟨h1, h2, h3, h4⟩ := h.2 he n (by simp [hn]) r (by simp [hr])
      have : ({ r with floor := s.ownFloor, lastEpoch := some s.rgu.epoch, phase := some s.rgu.phase,
                       supply := some s.ssu.supply } : RosterRecord) = r := by
        simp [← h1, ← h2, ← h3, ← h4]
      rw [this]
      simp only [State.setRecord, State.setBdr]
      have hv : s.bdr.roster.set n (some r) = s.bdr.roster := by
        rw [← hr]; simp
      rw [hv]
    · rfl
  · rfl

/-- No LIFT is offered where none has changed. -/
theorem offerChangedLifts_same {before s : State} (h : ∀ b, before.lift? b = s.lift? b) :
    offerChangedLifts before s = s := by
  simp [offerChangedLifts, eachBank, List.finRange_succ, h]

/-- A command that leaves a settled station with its LIFTs as they were ends as its effect leaves it. -/
theorem finish_settled {before s : State} (h : s.settled) (hl : ∀ b, before.lift? b = s.lift? b) :
    finish before s = s := by
  unfold finish
  split
  · rename_i he
    rw [offerChangedLifts_same hl, followStatus_settled h, followOwnRecord_settled h he.2]
  · rfl

/-- Before the entry to JOINING nothing follows a command. -/
theorem finish_starting {before : State} (s : State) (h : before.entered = false) : finish before s = s := by
  simp [finish, h]

/-- A command whose effect leaves the station settled, with its LIFTs as they were. -/
theorem run_settled {dt : Nat} {f : State → State} {s : State} (hl : s.live = true) (h : (f (s.after dt)).settled)
    (hb : ∀ b, (f (s.after dt)).lift? b = s.lift? b) : run dt f s = .next (f (s.after dt)) := by
  unfold run
  dsimp only
  rw [State.after_live, if_pos hl, finish_settled h]
  intro b
  rw [hb b, State.after_lift]

/-- The same of a command that acts only once the station has entered JOINING. -/
theorem runJoined_settled {dt : Nat} {f : State → State} {s : State} (hs : s.serving)
    (h : (f (s.after dt)).settled) (hb : ∀ b, (f (s.after dt)).lift? b = s.lift? b) :
    runJoined dt f s = .next (f (s.after dt)) := by
  have e : (if (s.after dt).entered = true then f (s.after dt) else s.after dt) = f (s.after dt) :=
    if_pos hs.2
  unfold runJoined
  rw [run_settled hs.1 (by simp only [e]; exact h) (by intro b; simp only [e]; exact hb b)]
  simp only [e]

end Sys2Proof.Machine
end

