-- ==== Sys2Proof/Laws/Image.lean ====
section
/-! SUPPORT. What the readers of the configuration image can answer: each reads exactly the spelling of the value that it
gives. -/

namespace Sys2Proof.Machine

open Sys2Proof

theorem ofNumber_eq_some {k n : Nat} {i : Fin k} : ofNumber k n = some i ↔ n = number i := by
  unfold ofNumber number
  split
  · simp [Fin.ext_iff]; omega
  · simp; omega

theorem ofIndex_eq_some {k n : Nat} {i : Fin k} : ofIndex k n = some i ↔ n = i.val := by
  unfold ofIndex
  split
  · simp [Fin.ext_iff, eq_comm]
  · simp; omega

@[simp] theorem ofNumber_number {k : Nat} (i : Fin k) : ofNumber k (number i) = some i := ofNumber_eq_some.mpr rfl

@[simp] theorem ofIndex_val {k : Nat} (i : Fin k) : ofIndex k i.val = some i := ofIndex_eq_some.mpr rfl

theorem readCar_eq_some {α : Type} {f : Bank → Car → α} {b c : Nat} {a : α} :
    readCar f b c = some a ↔ ∃ (b' : Bank) (c' : Car), b = number b' ∧ c = number c' ∧ f b' c' = a := by
  unfold readCar
  constructor
  · split
    · next b' c' hb hc =>
      intro h
      exact ⟨b', c', ofNumber_eq_some.mp hb, ofNumber_eq_some.mp hc, by simpa using h⟩
    · simp
  · rintro ⟨b', c', rfl, rfl, rfl⟩
    simp

/-- A point type is read from its spelling, and from nothing else (R41, R207). -/
theorem readPointType_eq_some {r : RawPointType} {t : PointType} : readPointType r = some t ↔ r = rawType t := by
  constructor
  · intro h
    cases r <;>
      simp only [readPointType, readCar_eq_some, Option.map_eq_some_iff, ofNumber_eq_some, Option.some.injEq,
        reduceCtorEq] at h <;>
      first
        | (obtain ⟨i, j, rfl, rfl, rfl⟩ := h; rfl)
        | (obtain ⟨i, rfl, rfl⟩ := h; rfl)
  · rintro rfl
    cases t <;> simp [rawType, readPointType, readCar]

/-- An output function is read from its spelling, and from nothing else (R207). -/
theorem readOutput_eq_some {r : RawOutput} {f : OutputFunction} : readOutput r = some f ↔ r = rawOutput f := by
  constructor
  · intro h
    cases r <;>
      simp only [readOutput, readCar_eq_some, Option.map_eq_some_iff, ofNumber_eq_some, Option.some.injEq,
        reduceCtorEq] at h <;>
      first
        | (obtain ⟨i, j, rfl, rfl, rfl⟩ := h; rfl)
        | (obtain ⟨i, rfl, rfl⟩ := h; rfl)
  · rintro rfl
    cases f <;> simp [rawOutput, readOutput, readCar]

/-- A table is read entry by entry. -/
theorem readAll_eq_some {α β : Type} {n : Nat} {d : β} {f : α → Option β} {v : Vector α n} {w : Vector β n} :
    readAll d f v = some w ↔ ∀ i : Fin n, f v[i] = some w[i] := by
  have all : (v.toList.all fun a => (f a).isSome) = true ↔ ∀ i : Fin n, (f v[i]).isSome = true := by
    simp only [List.all_eq_true, Vector.mem_toList_iff, Vector.mem_iff_getElem]
    constructor
    · intro h i
      exact h _ ⟨i.val, i.isLt, rfl⟩
    · rintro h _ ⟨i, hi, rfl⟩
      exact h ⟨i, hi⟩
  unfold readAll
  split
  · next h =>
    rw [all] at h
    constructor
    · intro e i
      obtain ⟨b, hb⟩ := Option.isSome_iff_exists.mp (h i)
      cases e
      simp only [Fin.getElem_fin, Vector.getElem_ofFn] at hb ⊢
      simp [hb]
    · intro e
      congr 1
      ext i hi
      have := e ⟨i, hi⟩
      simp only [Fin.getElem_fin] at this
      simp [this]
  · next h =>
    simp only [reduceCtorEq, false_iff]
    intro e
    exact h (all.mpr fun i => by rw [e i]; rfl)

end Sys2Proof.Machine
end

