-- ==== Sys2Proof/Laws/Port.lean ====
section
/-! SUPPORT. What the port makes of a console's frame (R40, R192, R193). -/

namespace Sys2Proof.Machine

/-- A frame as a console sends it is complete, with its code and its parameters (R40, R192). -/
@[simp] theorem judgeFrame_requestBytes {code : Byte} {params : List Byte} (h : params.length ≤ 16) :
    judgeFrame (requestBytes code params) = .complete code params := by
  have hn : (oneByte (1 + params.length)).toNat = params.length + 1 := by
    simp [oneByte, BitVec.toNat_ofNat]; omega
  have hw : ∀ w : Word, (wordBytes w).length = 2 := fun _ => rfl
  simp only [requestBytes, judgeFrame, List.cons_append]
  rw [hn]
  simp [hw]
  omega

/-- The frame of a code and its parameters is taken as a complete frame (R192). -/
@[simp] theorem takeFrame_eq {code : Byte} {params : List Byte} (h : params.length ≤ 16) :
    takeFrame code params = takeRequest code params := by
  funext s
  simp only [takeFrame, receiveFrame, judgeFrame_requestBytes h]

/-- A row that is a complete frame takes the request of its code and its parameters. -/
theorem exec_request {i : Instr} {dt : Nat} {code : Byte} {params : List Byte} {s : State}
    (hi : requestFrame i = some (dt, code, params)) (hp : params.length ≤ 16) :
    exec i s = runJoined dt (takeRequest code params) s := by
  rw [← takeFrame_eq hp]
  cases i with
  | requestCodeUnknown dt' code' p =>
    simp only [requestFrame] at hi
    split at hi
    · cases hi
    · next hk =>
      obtain ⟨rfl, rfl, rfl⟩ := by simpa using hi
      have hu : unknownFrame code' p = takeFrame code' p := by funext s; simp only [unknownFrame, if_neg hk]
      exact congrArg (runJoined dt' · s) hu
  | _ =>
    simp only [requestFrame, Option.some.injEq, Prod.mk.injEq, reduceCtorEq] at hi <;> obtain ⟨rfl, rfl, rfl⟩ := hi <;> rfl

end Sys2Proof.Machine
end

