-- ==== Sys2Proof/Laws/Queue.lean ====
section
/-! SUPPORT. What an offer and a withdrawal do to the transmit queue (R12 to R16). -/

namespace Sys2Proof.Machine

/-! ## Lists of entries -/

@[simp] theorem replace_slot (e : TxEntry) (c : Content) : (e.replace c).slot = e.slot := by
  unfold TxEntry.replace
  split <;> rfl

@[simp] theorem replace_latest (e : TxEntry) (c : Content) : (e.replace c).latest = c := by
  unfold TxEntry.replace
  split <;> rfl

@[simp] theorem newTxEntry_slot (c : Content) (now : Time) : (newTxEntry c now).slot = c.slot := rfl

@[simp] theorem newTxEntry_latest (c : Content) (now : Time) : (newTxEntry c now).latest = c := rfl

/-- The entry found is the one changed. -/
theorem find_changeFirst (p : TxEntry → Bool) (f : TxEntry → TxEntry) (l : List TxEntry)
    (h : ∀ e, p e = true → p (f e) = true) : (changeFirst p f l).find? p = (l.find? p).map f := by
  induction l with
  | nil => rfl
  | cons e l ih =>
    unfold changeFirst
    split
    · rename_i hp; simp [List.find?_cons, hp, h e hp]
    · rename_i hp; simp [List.find?_cons, hp, ih]

/-- A change that a search does not see leaves what it finds. -/
theorem find_changeFirst_other (p q : TxEntry → Bool) (f : TxEntry → TxEntry) (l : List TxEntry)
    (h : ∀ e, p e = true → q e = false ∧ q (f e) = false) : (changeFirst p f l).find? q = l.find? q := by
  induction l with
  | nil => rfl
  | cons e l ih =>
    unfold changeFirst
    split
    · rename_i hp; simp [(h e hp).1, (h e hp).2]
    · simp [List.find?_cons, ih]

/-- A removal that a search does not see leaves what it finds. -/
theorem find_removeFirst_other (p q : TxEntry → Bool) (l : List TxEntry) (h : ∀ e, p e = true → q e = false) :
    (removeFirst p l).find? q = l.find? q := by
  induction l with
  | nil => rfl
  | cons e l ih =>
    unfold removeFirst
    split
    · rename_i hp; simp [h e hp]
    · simp [List.find?_cons, ih]

theorem changeFirst_length (p : TxEntry → Bool) (f : TxEntry → TxEntry) (l : List TxEntry) :
    (changeFirst p f l).length = l.length := by
  induction l with
  | nil => rfl
  | cons e l ih =>
    unfold changeFirst
    split <;> simp [ih]

theorem mem_changeFirst {p : TxEntry → Bool} {f : TxEntry → TxEntry} {l : List TxEntry} {e : TxEntry}
    (h : e ∈ changeFirst p f l) : e ∈ l ∨ ∃ x ∈ l, p x = true ∧ e = f x := by
  induction l with
  | nil => simp [changeFirst] at h
  | cons x l ih =>
    unfold changeFirst at h
    split at h
    · rename_i hp
      rcases List.mem_cons.1 h with rfl | h
      · exact .inr ⟨x, by simp, hp, rfl⟩
      · exact .inl (by simp [h])
    · rcases List.mem_cons.1 h with rfl | h
      · exact .inl (by simp)
      · rcases ih h with h | ⟨y, hy, h⟩
        · exact .inl (by simp [h])
        · exact .inr ⟨y, by simp [hy], h⟩

theorem mem_removeFirst {p : TxEntry → Bool} {l : List TxEntry} {e : TxEntry} (h : e ∈ removeFirst p l) : e ∈ l := by
  induction l with
  | nil => simp [removeFirst] at h
  | cons x l ih =>
    unfold removeFirst at h
    split at h
    · simp [h]
    · rcases List.mem_cons.1 h with rfl | h
      · simp
      · simp [ih h]

/-! ## Offers (R13, R14, R16) -/

/-- Everything an offer can do: it is refused and nothing changes; a new entry joins at the end; or the entry that
fills the slot takes the content as its state gives. -/
theorem offer_cases (c : Content) (s : State) :
    (offer c s = (s, false) ∧ (s.lif.tx = .off ∨ ∃ n, c.slot.limit = some n ∧ n ≤ s.lif.filled c.slot))
      ∨ (offer c s = (s.setQueue (s.lif.queue ++ [newTxEntry c s.now]), true) ∧ s.lif.tx ≠ .off
          ∧ (s.lif.inSlot c.slot = none ∨ ∃ n, c.slot.limit = some n ∧ s.lif.filled c.slot < n))
      ∨ (offer c s = (s.setQueue (changeFirst (fun e => e.slot == c.slot) (fun e => e.replace c) s.lif.queue), true)
          ∧ s.lif.tx ≠ .off ∧ c.slot.limit = none ∧ ∃ e, s.lif.inSlot c.slot = some e) := by
  unfold offer
  split
  · rename_i h; exact .inl ⟨rfl, .inl h⟩
  · rename_i h
    split
    · rename_i n hn
      split
      · rename_i hf; exact .inr (.inl ⟨rfl, h, .inr ⟨n, hn, hf⟩⟩)
      · rename_i hf; exact .inl ⟨rfl, .inr ⟨n, hn, by omega⟩⟩
    · rename_i hn
      split
      · rename_i hs; exact .inr (.inl ⟨rfl, h, .inl hs⟩)
      · rename_i e hs; exact .inr (.inr ⟨rfl, h, hn, e, hs⟩)

/-- A refused offer leaves the station as it was (R13). -/
theorem offer_refused {c : Content} {s : State} (h : (offer c s).2 = false) : (offer c s).1 = s := by
  rcases offer_cases c s with ⟨h1, -⟩ | ⟨h1, -⟩ | ⟨h1, -⟩ <;> simp_all

/-- A listen-only station's offers are refused (R16). -/
theorem offer_off {c : Content} {s : State} (h : s.lif.tx = .off) : offer c s = (s, false) := by
  simp [offer, h]

/-- An offer of a kind that replaces is taken by any station that sends. -/
theorem offer_taken {c : Content} {s : State} (h : s.lif.tx ≠ .off) (hl : c.slot.limit = none) :
    (offer c s).2 = true := by
  rcases offer_cases c s with ⟨-, h1 | ⟨n, h1, -⟩⟩ | ⟨h1, -⟩ | ⟨h1, -⟩ <;> simp_all

/-- An offer leaves the entries of other slots as they were. -/
theorem inSlot_offer_other (c : Content) (s : State) {slot : Slot} (h : slot ≠ c.slot) :
    (offer c s).1.lif.inSlot slot = s.lif.inSlot slot := by
  have h' : (c.slot == slot) = false := by simpa using Ne.symm h
  rcases offer_cases c s with ⟨h1, -⟩ | ⟨h1, -⟩ | ⟨h1, -⟩ <;> rw [h1]
  · simp [Lif.inSlot, h']
  · simp only [Lif.inSlot, State.setQueue_lif]
    refine find_changeFirst_other _ _ _ _ fun e he => ?_
    have : e.slot = c.slot := by simpa using he
    simp [this, h']

/-- A kind that replaces carries the content offered last, once an offer of it is taken (R14). -/
theorem inSlot_offer {c : Content} {s : State} (h : s.lif.tx ≠ .off) (hl : c.slot.limit = none) :
    ∃ e, (offer c s).1.lif.inSlot c.slot = some e ∧ e.latest = c := by
  rcases offer_cases c s with ⟨-, h1 | ⟨n, h1, -⟩⟩ | ⟨h1, -, h2 | ⟨n, h2, -⟩⟩ | ⟨h1, -, -, e, he⟩
  · exact absurd h1 h
  · simp [hl] at h1
  · refine ⟨newTxEntry c s.now, ?_, rfl⟩
    rw [h1]
    unfold Lif.inSlot at h2
    simp [Lif.inSlot, List.find?_append, h2]
  · simp [hl] at h2
  · refine ⟨e.replace c, ?_, by simp⟩
    rw [h1]
    unfold Lif.inSlot at he
    simp only [Lif.inSlot, State.setQueue_lif]
    rw [find_changeFirst _ _ _ (fun e he => by simpa using he), he]
    rfl

/-! ## Withdrawals (R15) -/

/-- Everything a withdrawal can do. -/
theorem withdraw_cases (slot : Slot) (s : State) :
    (withdraw slot s = (s, .withdrawn) ∧ s.lif.inSlot slot = none)
      ∨ (withdraw slot s = (s.setQueue (removeFirst (fun x => x.slot == slot) s.lif.queue), .withdrawn)
          ∧ ∃ e, s.lif.inSlot slot = some e ∧ e.state = .waiting)
      ∨ (∃ v, withdraw slot s = (s.setQueue (changeFirst (fun x => x.slot == slot)
            (fun x => { x with pending := none, withdrawn := true }) s.lif.queue), v)
          ∧ ∃ e, s.lif.inSlot slot = some e
            ∧ ((e.state = .arbitrating ∧ v = .open_) ∨ (e.state = .sending ∧ v = .tooLate))) := by
  unfold withdraw
  split
  · rename_i h; exact .inl ⟨rfl, h⟩
  · rename_i e he
    split
    · rename_i h; exact .inr (.inl ⟨rfl, e, he, h⟩)
    · rename_i h; exact .inr (.inr ⟨_, rfl, e, he, .inl ⟨h, rfl⟩⟩)
    · rename_i h; exact .inr (.inr ⟨_, rfl, e, he, .inr ⟨h, rfl⟩⟩)

/-- A withdrawal leaves the entries of other slots as they were. -/
theorem inSlot_withdraw_other (slot : Slot) (s : State) {other : Slot} (h : other ≠ slot) :
    (withdraw slot s).1.lif.inSlot other = s.lif.inSlot other := by
  have h' : (slot == other) = false := by simpa using Ne.symm h
  rcases withdraw_cases slot s with ⟨h1, -⟩ | ⟨h1, -⟩ | ⟨v, h1, -⟩ <;> rw [h1]
  · simp only [Lif.inSlot, State.setQueue_lif]
    refine find_removeFirst_other _ _ _ fun e he => ?_
    have : e.slot = slot := by simpa using he
    simp [this, h']
  · simp only [Lif.inSlot, State.setQueue_lif]
    refine find_changeFirst_other _ _ _ _ fun e he => ?_
    have : e.slot = slot := by simpa using he
    simp [this, h']

/-! ## The own transmission complete (R10) -/

/-- The entry joins anew exactly where a content is queued behind the one sent. -/
theorem rejoin_eq (e : TxEntry) (now : Time) : e.rejoin now = e.pending.map fun c => e.anew c now := rfl

@[simp] theorem anew_slot (e : TxEntry) (c : Content) (now : Time) : (e.anew c now).slot = e.slot := rfl

@[simp] theorem anew_latest (e : TxEntry) (c : Content) (now : Time) : (e.anew c now).latest = c := rfl

@[simp] theorem anew_state (e : TxEntry) (c : Content) (now : Time) : (e.anew c now).state = .waiting := rfl

end Sys2Proof.Machine
end

