-- ==== Sys2Proof/WellFormed.lean ====
section
/-! DEFINITION. What a command of the outside can carry: the bounds that the line, the port and the stores give. A
command out of these bounds is no event of the part; the machine takes it all the same, as its meaning says. -/

namespace Sys2Proof

/-- Bytes that a console frame carries as parameters (R40, R192): its length byte is 1..17. -/
def paramsOk (params : List Byte) : Bool := params.length ≤ 16

/-- Bytes of a frame that is dropped (R40, R192): start byte, length, 1..17 bytes, check, at most. -/
def FrameFault.ok : FrameFault → Bool
  | .badStopBit => true
  | .frame bytes => 2 ≤ bytes.length && bytes.length ≤ 21

/-- Bytes of a complete bulletin (R1): header, 0..64 payload bytes, check. -/
def Ending.ok : Ending → Bool
  | .complete bytes => 5 ≤ bytes.length && bytes.length ≤ 69
  | .framing | .truncated | .overLength => true

/-- The two-byte fields of a clip header (R172). -/
def headerOk (h : ClipHeader) : Bool := h.number ≤ 65535 && h.length ≤ 65535

/-- The data of a buffer block (R172). -/
def blockOk (data : List Byte) : Bool := 1 ≤ data.length && data.length ≤ 256

/-- The records of a phrase table image (R147). -/
def phrasesOk (im : PhraseImage) : Bool := im.records.length == 256

/-- A command within its bounds. -/
def Instr.wellFormed : Instr → Bool
  | .bulletinEnd _ e => e.ok
  | .portFrameDiscarded _ why => why.ok
  | .phraseTableLoad _ im => phrasesOk im
  | .clipHeaderRead _ (some h) => headerOk h
  | .clipHeaderRead _ none => true
  | .bufferBlockFilled _ data => blockOk data
  | .requestCodeUnknown _ code params => !Machine.knownCode code && paramsOk params
  | .queryView _ p | .queryEvents _ p | .queryStairs _ p | .acknowledge _ p | .silenceAlert _ p | .unlockStairs _ p
  | .securityLock _ p | .securityFree _ p | .startPage _ p | .stopPage _ p | .resetRegime _ p | .isolatePoint _ p
  | .restorePoint _ p | .manualRecall _ p | .cancelRecall _ p | .testAnnounce _ p | .setBuzzerMask _ p
  | .forceCheckError _ p | .restartStation _ p | .invoke _ p => paramsOk p
  | .powerOn _ | .pinReset _ | .resetRelease _ _ | .configImageRead _ _ | .receiverIdle _ | .transmitStart _
  | .arbitrationLost _ | .arbitrationWon _ | .bitError _ | .errorBreakEnd _ | .holdGapRelease _ | .refreshExpiry _
  | .drainTick _ | .readingTaken _ _ _ | .supplyCutEnd _ _ | .windowExpiry _ _ | .digitClose _ _ | .roundClose _ _
  | .continuousRing _ _ | .lockFeedbackTimeout _ _ | .leafClosingTimeout _ _ | .recallTimerLimit _ _ _
  | .hatFlashToggle _ _ | .lampFlashToggle _ | .buzzerPatternStep _ | .gapExpiry _ | .bufferBlockSounded _
  | .underrunTimeout _ | .clipEnd _ | .toneEnd _ | .pageExpiry _ | .circuitSenseTaken _ _ _ | .portByteTimeout _
  | .answerSent _ _ | .startBitRead _ => true

end Sys2Proof
end

