-- ==== Sys2Proof/Tests/Slice0.lean ====
section
/-! SUPPORT. Small tests: ill-formed commands, the worked cases of the manual, and for every statement with premises a
state and operands that meet them all. -/

namespace Sys2Proof.Tests

open Sys2Proof Sys2Proof.Machine

/-! ## Commands out of their bounds -/

theorem test_bulletin_too_short : Instr.wellFormed (.bulletinEnd 0 (.complete [0, 0, 0, 0])) = false := by decide

theorem test_bulletin_too_long : Instr.wellFormed (.bulletinEnd 0 (.complete (List.replicate 70 0))) = false := by decide +kernel

theorem test_bulletin_longest : Instr.wellFormed (.bulletinEnd 0 (.complete (List.replicate 69 0))) = true := by decide +kernel

theorem test_phrase_table_short : Instr.wellFormed (.phraseTableLoad 0 ⟨List.replicate 255 .empty, true⟩) = false := by decide +kernel

theorem test_header_too_large : Instr.wellFormed (.clipHeaderRead 0 (some ⟨65536, 1, true⟩)) = false := by decide

theorem test_dropped_frame_too_long : Instr.wellFormed (.portFrameDiscarded 0 (.frame (List.replicate 22 0))) = false := by
  decide +kernel

theorem test_block_empty : Instr.wellFormed (.bufferBlockFilled 0 []) = false := by decide

theorem test_block_too_large : Instr.wellFormed (.bufferBlockFilled 0 (List.replicate 257 0)) = false := by decide +kernel

theorem test_frame_too_long : Instr.wellFormed (.startPage 0 (List.replicate 17 0)) = false := by decide

theorem test_known_code_is_not_unknown : Instr.wellFormed (.requestCodeUnknown 0 0x11 []) = false := by decide

/-! ## Worked cases -/

/-- A site of two stairs with a leaf on stair 1, one bank of two cars, and points of several types. -/
def site : StationConfig :=
  { unreadValues with
    stairCount := 2, capacity := Vector.replicate 4 200, drain := Vector.replicate 4 20
    ownFloor := some 14, occupancy := 110, shares := Vector.replicate 4 8
    points := ((((Vector.replicate 32 ⟨.callPoint, false, false⟩).set 1 ⟨.legacyCoded, false, false⟩).set 2
      ⟨.detector 0, false, true⟩).set 3 ⟨.level2Key, false, false⟩)
    outputs := ((Vector.replicate 24 .none).set 0 (.leafLock 0)).set 1 (.leafHold 0)
    codes := (Vector.replicate 32 none).set 5 (some ⟨[2, 3], 7⟩)
    banks := (Vector.replicate 2 none).set 0 (some ⟨1, 2, 2, 60⟩) }

/-- Station 14 of that site after it has left JOINING, with every key turned. -/
def joined : State :=
  { State.reset with
    now := 1000000
    ssu := { Ssu.reset with join := .joined, stage := .done, station := some 13, config := site }
    lif := { Lif.reset with rx := .idle, lineIdle := true }
    bdr := { Bdr.reset with refreshNext := some 1000000 }
    sau := { Sau.reset with drainNext := some 1000000 }
    lfc := { Lfc.reset with leaves := (Vector.replicate 4 none).set 0 (some { LeafRecord.reset with lock := .locked, hold := .held }) }
    lfu := { Lfu.reset with banks := (Vector.replicate 2 none).set 0 (some .reset) }
    cpt := { Cpt.reset with key2 := true, key3 := true, jumper4 := true } }

/-- Section 5.9, station 7. -/
theorem test_split_largest_remainder :
    split { site with stairCount := 4, occupancy := 137, shares := #v[8, 5, 3, 0] }
      #v[.inService, .inService, .smokeLogged, .inService] = #v[84, 53, 0, 0] := by decide

/-- Section 5.9, station 9. -/
theorem test_split_without_shares :
    split { site with stairCount := 3, occupancy := 75, shares := #v[0, 0, 16, 0] }
      #v[.inService, .inService, .smokeLogged, .inService] = #v[38, 37, 0, 0] := by decide

/-- Section 1.8: the arbitration bytes of stations 12, 30 and 7. -/
theorem test_arbitration_bytes :
    (bulletinBytes .fire 11 (.condition 0 [])).head? = some 0x0C
      ∧ (bulletinBytes .fire 29 (.condition 0 [])).head? = some 0x1E
      ∧ (bulletinBytes .status 6 .pageStop).head? = some 0x87 := by decide

/-- Section 1.10: the effective class after 16 losses. -/
theorem test_ageing_of_a_test :
    ((exec (.arbitrationLost 0) { joined with
        lif := { Lif.reset with
          rx := .receiving, tx := .arbitrating
          queue := [{ newTxEntry (.test 0) 0 with losses := 15, state := .arbitrating }] } }) =
      .next { joined with
        lif := { Lif.reset with
          rx := .receiving, tx := .ready
          queue := [{ newTxEntry (.test 0) 0 with cls := .status }] } }) := by rfl

/-- The map of section 4.9: a fire on floor 12. -/
def mapOfTwelve : FloorMap := mapOf [(some 30, [⟨some 12, .detector⟩])]

/-- Section 4.9: distance and side of the floors around the fire, and who precedes whom. -/
theorem test_release_order :
    mapOfTwelve.distance 13 = 1 ∧ mapOfTwelve.side 13 = 0 ∧ mapOfTwelve.side 11 = 1 ∧ mapOfTwelve.distance 16 = 4
      ∧ mapOfTwelve.precedes 13 11 = true ∧ mapOfTwelve.precedes 14 10 = true ∧ mapOfTwelve.precedes 10 15 = true := by
  decide

/-- Section 5.10: tick 1 at station 14. -/
theorem test_drain_first_tick :
    drainQueue 20 [⟨some 11, 48, 0⟩, ⟨some 12, 60, 0⟩, ⟨some 13, 44, 0⟩]
      = [⟨some 11, 28, 0⟩, ⟨some 12, 60, 0⟩, ⟨some 13, 44, 0⟩] := by decide

/-- Section 5.10, variant: tick 3 carries 12 persons into the record of floor 12. -/
theorem test_drain_carries_over :
    drainQueue 20 [⟨some 11, 8, 0⟩, ⟨some 12, 60, 0⟩, ⟨some 13, 44, 0⟩] = [⟨some 12, 48, 0⟩, ⟨some 13, 44, 0⟩] := by decide

/-- Section 6.8: leaf commands of an ordinary floor, quiet, freed, on battery, and in ALERT. -/
theorem test_leaf_commands :
    joined.lockCommand 0 .none = .locked ∧ joined.lockCommand 0 .free = .released ∧ joined.holdCommand 0 = .held
      ∧ { joined with ssu := { joined.ssu with supply := .battery } }.holdCommand 0 = .dropped
      ∧ { joined with rgu := { joined.rgu with phase := .alert } }.lockCommand 0 .none = .released := by decide

/-- Section 8.11: LINK 23 in entry 23 fails the trial of role 1 with DEPTH at entry 23, level 6. -/
theorem test_loop_in_the_table :
    resolve { joined.walkView with
        table := (((Vector.replicate 256 Phrase.empty).set 1 (.script [20, 23])).set 20 (.clip 100)).set 23 (.link 23) }
      [.evacuate] = .error ⟨.depth, 23, 6⟩ := by rfl

/-- Section 11.7: the presented level 2 does not reach MANUAL_RECALL. -/
theorem test_manual_recall_needs_level_3 :
    exec (.manualRecall 0 [1]) { joined with cpt := { Cpt.reset with key2 := true } } = .next { joined with
      cpt := { Cpt.reset with key2 := true, inHand := some ⟨0x24, some (answerFrame .level []), false⟩ } } :=
  (exec_request rfl (by decide)).trans rfl

/-- Section 11.7: INVOKE 20 is answered RANGE, INVOKE 2 of an absent entry ABSENT. -/
theorem test_invoke_range :
    exec (.invoke 0 [20]) joined = .next { joined with
        cpt := { joined.cpt with inHand := some ⟨0x40, some (answerFrame .range []), false⟩ } }
      ∧ exec (.invoke 0 [2]) joined = .next { joined with
        cpt := { joined.cpt with inHand := some ⟨0x40, some (answerFrame .absent []), false⟩ } } :=
  ⟨(exec_request rfl (by decide)).trans rfl, (exec_request rfl (by decide)).trans rfl⟩

/-- R40: the ACKNOWLEDGE frame, its check computed apart from the model, by the parameters of 00_scope.md section 4.5. -/
theorem test_acknowledge_frame :
    requestBytes 0x11 [] = [0x5A, 0x01, 0x11, 0x2C, 0x2E]
      ∧ judgeFrame [0x5A, 0x01, 0x11, 0x2C, 0x2E] = .complete 0x11 []
      ∧ judgeFrame [0x5A, 0x01, 0x11, 0x2C, 0x2F] = .dropped ∧ judgeFrame [0x5A, 0x12] = .dropped
      ∧ judgeFrame [0x5A, 0x01, 0x11, 0x2C] = .unfinished := by decide +kernel

/-- Section 10.6: a mask of FAULT and NOTICE leaves SUPERVISORY and FIRE sounding. -/
theorem test_buzzer_under_a_mask :
    { Eva.reset with
        mask := ⟨false, true, true⟩
        entries := [newEntry (.point 20) .openCircuit 0, newEntry (.point 23) .isolated 0] }.sounded = some .supervisory
      ∧ { Eva.reset with mask := ⟨false, true, true⟩, entries := [newEntry (.point 20) .openCircuit 0] }.sounded = none := by
  decide

/-- R1: start bit dominant, data bits with the most significant first, stop bit recessive. -/
theorem test_byte_on_the_line :
    levels [0xA1] = [.dominant, .recessive, .dominant, .recessive, .dominant, .dominant, .dominant, .dominant, .recessive,
      .recessive] := by decide

/-- R9: an error break drives the line for 12 bit times. -/
theorem test_break_on_the_line :
    let s : State := { joined with lif := { Lif.reset with tx := .breaking, breakFrom := 1000000 } }
    (s.after 11).lineTx = .dominant ∧ (s.after 12).lineTx = .recessive := by decide

/-- R171: at 8,000 samples a second the second sample sounds from 1.2 bit times on. -/
theorem test_second_sample :
    let s : State := { joined with
      pbu := { Pbu.reset with
        inPlay := some (.clip 3), channel := .data 0, soundFrom := 1000000
        blocks := (Vector.replicate 2 .empty).set 0 ⟨.playing, [10, 20]⟩ } }
    (s.after 1).audioOut = .sample 10 ∧ (s.after 2).audioOut = .sample 20 ∧ (s.after 3).audioOut = .silent := by decide

/-- R41: the last good readings NORMAL and ACTIVE are sent as 0 and 1. -/
theorem test_last_good_reading :
    optByte lastGoodCode (some false) = 0 ∧ optByte lastGoodCode (some true) = 1 ∧ optByte lastGoodCode none = 255 := by
  decide

/-! ## Premises met

Each theorem below gives a state and operands that meet all the premises of one statement, or of one clause of it,
together. -/

/-- The station of `joined` with a bulletin in reception. -/
def hearing : State := { joined with lif := { Lif.reset with rx := .receiving } }

/-- The station of `joined` with one entry on the line. -/
def transmitting (tx : TxState) (e : TxEntry) : State :=
  { joined with lif := { Lif.reset with rx := .receiving, tx := tx, queue := [e] } }

/-- An entry as its transmission starts. -/
def entryAt (state : EntryState) (c : Content) : TxEntry := { newTxEntry c 0 with state := state }

/-- A station that waits for its image, and one that waits for its phrase table. -/
def atImage : State := { State.reset with ssu := { Ssu.reset with stage := .image } }
def atPhraseTable : State :=
  { State.reset with
    ssu := { Ssu.reset with stage := .phraseTable, station := some 13, config := site }
    lfu := { Lfu.reset with banks := (Vector.replicate 2 none).set 0 (some .reset) } }

/-- A good image, its points all call points. -/
def goodImage : ConfigImage where
  building := ⟨2, Vector.replicate 4 200, Vector.replicate 4 20, 4, 1, 1, 20⟩
  station :=
    { ownFloor := some 14, occupancy := 110, shares := Vector.replicate 4 8, reentryFloor := false
      points := Vector.replicate 32 ⟨.callPoint, false, false⟩, outputs := Vector.replicate 24 .none
      codes := Vector.replicate 32 none, delegation := Vector.replicate 16 none, speakers := 1
      banks := (Vector.replicate 2 none).set 0 (some ⟨1, 2, 4, 600⟩), gap := 8 }
  checkAgrees := true

/-- Bulletins of station 31 (held as 30). -/
def bytesOf (c : Content) : List Byte := bulletinBytes .regime 30 c
def heardOf (c : Content) : Heard := ⟨30, c.kind, c.payload⟩

theorem witness_FrontCommandRuns : joined.pending = [] := by decide

theorem witness_ResetsBeginStart : joined.live = true ∧ State.reset.live = false ∧ (0 : Fin 64) = 0 ∧ (63 : Fin 64) ≠ 0 := by
  decide

theorem witness_ImageTaken : atImage.ssu.stage = .image ∧ atImage.entered = false := by decide

theorem witness_ImageTaken_delegation :
    (configure (some goodImage)).1.unconfigured = false ∧ (configure none).1.unconfigured = true
      ∧ readRequest 0x27 [2] = some (.setBuzzerMask ⟨false, true, false⟩) ∧ readRequest 0x40 [3] = some (.invoke 3)
      ∧ readRequest 0x24 [3] = none := by decide +kernel

theorem witness_GoodImageInRange :
    (readImage goodImage).isSome = true ∧ { goodImage with checkAgrees := false }.checkAgrees = false
      ∧ readImage { goodImage with station := { goodImage.station with gap := 31 } } = none := by decide +kernel

theorem witness_TableLoadEntersJoining :
    (atPhraseTable.ssu.stage = .phraseTable ∧ atPhraseTable.entered = false ∧ atPhraseTable.rgu = .reset
      ∧ atPhraseTable.sau = .reset ∧ atPhraseTable.pbu = .reset ∧ atPhraseTable.lif.queue = []
      ∧ atPhraseTable.bdr = .reset)
      ∧ atPhraseTable.ssu.station = some 13 ∧ atPhraseTable.lif.tx ≠ .off
      ∧ atPhraseTable.lift? 0 = some ⟨0, .none, .none, [.normal, .normal]⟩
      ∧ { atPhraseTable with lif := { Lif.reset with tx := .off } }.lif.tx = .off := by decide

theorem joined_settled : (joined.serving ∧ joined.settled) ∧ joined.lineOk ∧ joined.cpt.inHand = none :=
  ⟨by decide, by decide, by decide⟩

theorem hearing_serves : hearing.serving ∧ hearing.settled ∧ hearing.lif.rx = .receiving ∧ hearing.lif.tx ≠ .sending
    ∧ hearing.lif.tx ≠ .off := by decide

theorem witness_ReceiverFollowsLine_gap :
    let s := { joined with lif := Lif.reset }
    s.live = true ∧ s.settled ∧ s.lif.rx = .seeking := by decide

theorem witness_ReceiverFollowsLine_discarding :
    let s := { joined with lif := { Lif.reset with rx := .discarding } }
    s.live = true ∧ s.settled ∧ s.lif.rx = .discarding := by decide

theorem witness_ReceiverFollowsLine_start : joined.live = true ∧ joined.settled ∧ joined.lif.rx = .idle := by decide

theorem witness_ReceiverFollowsLine_hold :
    let s := { joined with lif := { joined.lif with held := true, holdFrom := some 999967 } }
    s.live = true ∧ s.settled ∧ s.entered = true ∧ s.lif.held = true ∧ s.lif.rx = .idle ∧ s.lif.lineIdle = true
      ∧ s.lif.holdFrom = some 999967 ∧ s.now = 999967 + 33 := by decide

theorem witness_TransmitterStartsHead :
    let e := newTxEntry (.condition 0 []) 0
    let s := { joined with lif := { joined.lif with queue := [e], held := true } }
    s.serving ∧ s.settled ∧ headEntry s.lif.queue = some e ∧ s.lif.tx = .ready ∧ s.lif.rx = .idle
      ∧ s.lif.lineIdle = true ∧ (s.lif.held = false ∨ e.cls = .fire) ∧ (s.lif.txFault = false ∨ s.lif.attemptOpen = true) := by
  decide

theorem witness_TransmitterStartsHead_held :
    let e := newTxEntry .pageStop 0
    let s := { joined with lif := { joined.lif with queue := [e], held := true } }
    s.serving ∧ s.settled ∧ s.lif.held = true ∧ headEntry s.lif.queue = some e ∧ e.cls ≠ .fire := by decide

theorem witness_TransmitterStartsHead_empty : joined.serving ∧ joined.settled ∧ joined.lif.queue = [] := by decide

theorem witness_ArbitrationDecides :
    let e := { entryAt .arbitrating (.test 0) with losses := 15 }
    let s := transmitting .arbitrating e
    s.serving ∧ s.settled ∧ s.lif.tx = .arbitrating ∧ s.lif.onLine = some e ∧ e.withdrawn = false := by decide

theorem witness_BitErrorBreaks :
    let e := { entryAt .sending (.test 0) with abandons := 7 }
    let s := transmitting .sending e
    s.serving ∧ s.settled ∧ (s.lif.tx = .arbitrating ∨ s.lif.tx = .sending) ∧ s.lif.onLine = some e
      ∧ e.withdrawn = false := by decide

theorem witness_BitErrorBreaks_end :
    let s := { joined with lif := { Lif.reset with tx := .breaking, breakFrom := 999988 } }
    s.serving ∧ s.settled ∧ s.lif.tx = .breaking ∧ s.lif.breakFrom + 12 ≤ s.now := by decide

theorem witness_FailedBulletinCounts :
    let s := { hearing with lif := { hearing.lif with failures := 7 } }
    s.live = true ∧ s.settled ∧ s.lif.rx = .receiving ∧ s.lif.tx ≠ .sending ∧ judge [1, 2, 3, 4, 5] = none := by decide

theorem witness_OwnTransmissionCompletes :
    let e := entryAt .sending (.test 7)
    let s := transmitting .sending e
    s.serving ∧ s.lineOk ∧ s.lif.rx = .receiving ∧ s.lif.tx = .sending ∧ s.lif.onLine = some e := by decide

theorem witness_OwnTransmissionCompletes_rejoins :
    let e := { entryAt .sending (.lift ⟨0, .none, .none, [.normal, .normal]⟩) with
      pending := some (.lift ⟨0, .designated, .fire, [.recalling, .normal]⟩) }
    let s := transmitting .sending e
    (s.serving ∧ s.settled ∧ s.lif.rx = .receiving ∧ s.lif.tx = .sending ∧ s.lif.onLine = some e ∧ e.slot ≠ .release
      ∧ judge [1, 2, 3, 4, 5] = none) ∧ s.lineOk := ⟨by decide, by decide⟩

theorem witness_OwnTransmissionCompletes_test :
    let e := entryAt .sending (.test 7)
    let s := transmitting .sending e
    s.settled ∧ e.content = .test 7 ∧ e.pending = none ∧ judge (bulletinBytes .routine 13 (.test 7)) = none
      ∧ s.active (.internal .lineRx) .checkTestPassed = false := by decide +kernel

theorem witness_ReleaseHeardJoinsQueues :
    let r : Release := ⟨0, 14, true, [55, 0]⟩
    hearing.serving ∧ hearing.lif.rx = .receiving ∧ hearing.lif.tx ≠ .sending
      ∧ judge (bytesOf (.release r)) = some (heardOf (.release r))
      ∧ readPayload (heardOf (.release r)).kind (heardOf (.release r)).payload = some (.release r)
      ∧ r.epoch = hearing.rgu.epoch ∧ flagged hearing.sau.released r.floor = false ∧ hearing.ownFloor = some r.floor := by
  decide +kernel

theorem witness_ReportsHeardKept_condition :
    let c : Content := .condition 0 [⟨some 12, .detector⟩]
    hearing.serving ∧ hearing.lif.rx = .receiving ∧ hearing.lif.tx ≠ .sending ∧ judge (bytesOf c) = some (heardOf c)
      ∧ readPayload (heardOf c).kind (heardOf c).payload = some (.condition hearing.rgu.epoch [⟨some 12, .detector⟩]) := by
  decide +kernel

/-- A STATUS of a station on floor 31. -/
def status31 : StatusReport where
  epoch := 0
  floor := some 31
  phase := .normal
  supply := .mains
  digest := 0
  loads := Vector.replicate 4 0
  logged := Vector.replicate 4 false
  released := 0
  contributions := []

theorem witness_ReportsHeardKept_status :
    let c : Content := .status status31
    let s := { hearing with ssu := { hearing.ssu with join := .joining } }
    hearing.serving ∧ hearing.lif.rx = .receiving ∧ hearing.lif.tx ≠ .sending ∧ judge (bytesOf c) = some (heardOf c)
      ∧ readPayload (heardOf c).kind (heardOf c).payload = some c ∧ status31.epoch = hearing.rgu.epoch
      ∧ hearing.isOwn (heardOf c).sender = false ∧ hearing.ssu.join = .joined ∧ s.serving ∧ s.ssu.join = .joining := by
  decide +kernel

theorem witness_ReportsHeardKept_stair :
    let c : Content := .stair 0 0 .smokeLogged
    hearing.serving ∧ hearing.lif.rx = .receiving ∧ hearing.lif.tx ≠ .sending ∧ judge (bytesOf c) = some (heardOf c)
      ∧ readPayload (heardOf c).kind (heardOf c).payload = some (.stair hearing.rgu.epoch 0 .smokeLogged)
      ∧ hearing.hasStair 0 = true ∧ hearing.sau.status[(0 : Stair)] = .inService
      ∧ hearing.lfc.leaves[(0 : Stair)].isSome = true := by decide +kernel

theorem witness_ReportsHeardKept_lift :
    let c : Content := .lift ⟨1, .designated, .fire, [.recalling]⟩
    hearing.serving ∧ hearing.lif.rx = .receiving ∧ hearing.lif.tx ≠ .sending ∧ judge (bytesOf c) = some (heardOf c)
      ∧ readPayload (heardOf c).kind (heardOf c).payload = some c := by decide +kernel

/-- A content that a station of epoch 0 adopts from what it hears. -/
abbrev adoptedFrom (c : Content) : Prop :=
  judge (bytesOf c) = some (heardOf c) ∧ readPayload (heardOf c).kind (heardOf c).payload = some c ∧ c.epoch? = some 1

theorem witness_ResetHeardStartsEpoch :
    hearing.serving ∧ hearing.lif.rx = .receiving ∧ hearing.lif.tx ≠ .sending ∧ adoptedFrom (.regimeReset 1 3)
      ∧ hearing.rgu.epoch < 1 ∧ hearing.lif.tx ≠ .off := by decide +kernel

theorem witness_ResetHeardStartsEpoch_others :
    adoptedFrom (.condition 1 [⟨some 12, .detector⟩]) ∧ adoptedFrom (.stair 1 1 .smokeLogged)
      ∧ adoptedFrom (.release ⟨1, 14, true, [55, 55]⟩) ∧ adoptedFrom (.status { status31 with epoch := 1 }) := by
  decide +kernel

theorem witness_StaleEpochAnswered :
    let c : Content := .stair 0 1 .smokeLogged
    let s := { hearing with rgu := { hearing.rgu with epoch := 1 } }
    s.serving ∧ s.lif.rx = .receiving ∧ s.lif.tx ≠ .sending ∧ s.lif.tx ≠ .off ∧ judge (bytesOf c) = some (heardOf c)
      ∧ readPayload (heardOf c).kind (heardOf c).payload = some c ∧ c.epoch? = some 0 ∧ 0 < s.rgu.epoch := by decide +kernel

theorem witness_RecallCommandHeard_recall :
    let c : Content := .command (.manualRecall 0) 3
    hearing.serving ∧ hearing.liftsAgree ∧ hearing.lif.rx = .receiving ∧ hearing.lif.tx ≠ .sending
      ∧ judge (bytesOf c) = some (heardOf c) ∧ hearing.ssu.config.banks[(0 : Bank)] = some ⟨1, 2, 2, 60⟩
      ∧ hearing.lfu.banks[(0 : Bank)] = some .reset
      ∧ readPayload (heardOf c).kind (heardOf c).payload = some c ∧ BankRecord.reset.cause = .none := by decide +kernel

/-- A bank under manual recall, its one car that is left in service called to the designated landing. -/
def recalled : BankRecord :=
  { BankRecord.reset with
    manual := true, cause := .manual, landing := .designated, hat := .steady, hatOn := true
    cars := Vector.replicate 4 { CarRecord.reset with state := .recalling, output := .main, timer := some 0 } }

theorem witness_RecallCommandHeard_cancel :
    let c : Content := .command (.cancelRecall 0) 3
    let s := { hearing with lfu := { hearing.lfu with banks := hearing.lfu.banks.set 0 (some recalled) } }
    s.serving ∧ s.liftsAgree ∧ s.lif.rx = .receiving ∧ s.lif.tx ≠ .sending
      ∧ judge (bytesOf c) = some (heardOf c) ∧ s.ssu.config.banks[(0 : Bank)] = some ⟨1, 2, 2, 60⟩
      ∧ s.lfu.banks[(0 : Bank)] = some recalled
      ∧ readPayload (heardOf c).kind (heardOf c).payload = some c ∧ recalled.fireLatch = false := by decide +kernel

theorem witness_RecallCommandHeard_silence :
    let c : Content := .command .silenceAlert 2
    hearing.serving ∧ hearing.lif.rx = .receiving ∧ hearing.lif.tx ≠ .sending ∧ judge (bytesOf c) = some (heardOf c)
      ∧ readPayload (heardOf c).kind (heardOf c).payload = some c ∧ hearing.rgu.silence = false := by decide +kernel

theorem witness_RecallCommandHeard_unlock :
    let c : Content := .command .unlockStairs 2
    (hearing.serving ∧ hearing.lif.rx = .receiving ∧ hearing.lif.tx ≠ .sending ∧ judge (bytesOf c) = some (heardOf c)
      ∧ readPayload (heardOf c).kind (heardOf c).payload = some c ∧ hearing.lfc.unlockAll = false) ∧ hearing.leavesAgree :=
  ⟨by decide +kernel, by decide⟩

theorem witness_RefreshExpires :
    let s := { joined with bdr := { joined.bdr with roster := joined.bdr.roster.set 30 (some { RosterRecord.fresh with silent := 2 }) } }
    s.serving ∧ s.bdr.refreshNext = some 1000000 ∧ 1000000 ≤ s.now + 0 ∧ s.lif.tx ≠ .off ∧ s.isOwn 30 = false
      ∧ s.bdr.roster[(30 : Sender)] = some { RosterRecord.fresh with silent := 2 } := by decide

theorem witness_DrainTickDrains :
    let s := { joined with sau := { joined.sau with
      released := 0x1800, queues := joined.sau.queues.set 1 [⟨some 11, 20, 0⟩, ⟨some 12, 5, 0⟩] } }
    s.serving ∧ s.sau.drainNext = some 1000000 ∧ 1000000 ≤ s.now + 0 ∧ s.hasStair 1 = true ∧ s.hasStair 2 = false := by
  decide

theorem witness_CallPointReportsFloor :
    joined.serving ∧ joined.pointType 0 = .callPoint ∧ (joined.point 0).isolated = false
      ∧ (joined.point 0).lastGood ≠ some true ∧ (joined.point 0).logical = .normal ∧ (joined.point 0).armed = true
      ∧ (joined.point 0).filterFrom + filterTime ≤ joined.now + 0 ∧ joined.rgu.own.length < 16
      ∧ ⟨joined.ownFloor, .callPoint⟩ ∉ joined.rgu.own ∧ joined.lif.tx ≠ .off := by decide

theorem witness_VerificationRuns_active :
    (joined.serving ∧ joined.settled) ∧ groupOf (joined.pointType 2) = some 0
      ∧ joined.ssu.config.points[(2 : Point)].verification = true ∧ (joined.point 2).isolated = false
      ∧ joined.ptu.cuts[(0 : Group)] = none ∧ (joined.point 2).filterFrom + filterTime ≤ joined.now + 0
      ∧ (joined.point 2).logical = .normal ∧ (joined.point 2).lastGood ≠ some true := by decide

theorem witness_VerificationRuns_confirms :
    let s := joined.setPoint 2 fun r => { r with logical := .confirming, windowExpiry := some 1000001 }
    s.serving ∧ s.settled ∧ groupOf (s.pointType 2) = some 0 ∧ s.ssu.config.points[(2 : Point)].verification = true
      ∧ (s.point 2).isolated = false ∧ s.ptu.cuts[(0 : Group)] = none
      ∧ (s.point 2).filterFrom + filterTime ≤ s.now + 0 ∧ (s.point 2).logical = .confirming
      ∧ (s.point 2).windowExpiry = some 1000001 ∧ s.now + 0 < 1000001 ∧ s.rgu.own.length < 16 := by decide

theorem witness_VerificationRuns_cut :
    let s := { joined with ptu := { (joined.setPoint 2 fun r => { r with logical := .preAlarm }).ptu with
      cuts := joined.ptu.cuts.set 0 (some 1000000) } }
    s.serving ∧ s.settled ∧ 1000000 ≤ s.now + 0 ∧ s.ptu.cuts[(0 : Group)] = some 1000000
      ∧ groupOf (s.pointType 2) = some 0 ∧ (s.point 2).logical = .preAlarm := by decide

theorem witness_VerificationRuns_window :
    let s := joined.setPoint 2 fun r => { r with logical := .confirming, windowExpiry := some 1000000, unconfirmed := 2 }
    s.serving ∧ s.settled ∧ 1000000 ≤ s.now + 0 ∧ (s.point 2).logical = .confirming
      ∧ (s.point 2).windowExpiry = some 1000000 := by decide

/-- The coded point of `joined` after the last pulse of a round. -/
def coded (d : Decoder) : State := joined.setPoint 1 fun r => { r with decoder := d }

theorem witness_CodedRoundCloses_digit :
    let s := coded { Decoder.empty with state := .gap, closed := [2], count := 3, lastPulseEnd := some 988480 }
    s.serving ∧ s.settled ∧ s.pointType 1 = .legacyCoded ∧ (s.point 1).isolated = false
      ∧ (s.point 1).decoder.state = .gap ∧ (s.point 1).decoder.lastPulseEnd = some 988480
      ∧ 1 ≤ (s.point 1).decoder.count ∧ 988480 + millis 1200 ≤ s.now + 0 := by decide

/-- The coded point of `joined` with a round of two digits that closes. -/
def roundOf (closed : List Nat) (candidate : Option (List Nat)) : State :=
  coded { Decoder.empty with state := .gap, closed := closed, lastPulseEnd := some 971199, candidate := candidate }

theorem witness_CodedRoundCloses_first :
    let s := roundOf [2, 3] none
    s.serving ∧ s.settled ∧ s.pointType 1 = .legacyCoded ∧ (s.point 1).isolated = false
      ∧ (s.point 1).decoder.state = .gap ∧ (s.point 1).decoder.lastPulseEnd = some 971199
      ∧ (s.point 1).decoder.count = 0 ∧ (s.point 1).decoder.closed = [2, 3] ∧ 971199 + millis 3000 < s.now + 0
      ∧ (s.point 1).decoder.candidate ≠ some [2, 3] := by decide

theorem witness_CodedRoundCloses_second :
    let s := roundOf [2, 3] (some [2, 3])
    let u := roundOf [9] (some [9])
    (s.serving ∧ s.pointType 1 = .legacyCoded ∧ (s.point 1).isolated = false ∧ (s.point 1).decoder.state = .gap
      ∧ (s.point 1).decoder.lastPulseEnd = some 971199 ∧ (s.point 1).decoder.candidate = some [2, 3]
      ∧ 971199 + millis 3000 < s.now + 0 ∧ s.rgu.own.length < 16
      ∧ s.ssu.config.codes[(5 : Fin 32)] = some ⟨[2, 3], 7⟩
      ∧ ∀ j : Fin 32, j < 5 → s.ssu.config.codes[j] = none)
      ∧ (u.serving ∧ (u.point 1).decoder.candidate = some [9] ∧ u.rgu.own.length < 16)
      ∧ ∀ i : Fin 32, ∀ y ∈ u.ssu.config.codes[i], y.digits ≠ [9] := by decide

/-- The station of `joined` with a point of a type at IN4. -/
def withPoint (type : PointType) (r : PointRecord) : State :=
  { joined with
    ssu := { joined.ssu with config := { site with points := site.points.set 4 ⟨type, true, false⟩ } }
    ptu := { joined.ptu with points := joined.ptu.points.set 4 r } }

theorem witness_ReadingsPassedOn_fault :
    let s := withPoint .callPoint { PointRecord.reset with reading := .openLoop, lastGood := some false }
    let u := withPoint (.leafPosition 0) { PointRecord.reset with reading := .active, lastGood := some true, logical := .active }
    (s.serving ∧ s.ssu.config.points[(4 : Point)].supervised = true ∧ groupOf (s.pointType 4) = none
      ∧ (s.point 4).filterFrom + filterTime ≤ s.now + 0 ∧ (s.point 4).reading ≠ readingOf .short
      ∧ alarmType (s.pointType 4) = true)
      ∧ u.serving ∧ (u.point 4).isolated = false ∧ (u.point 4).reading ≠ readingOf .openLoop
      ∧ ∀ v ∈ (u.point 4).lastGood, (u.point 4).logical = if v then .active else .normal := by decide

theorem witness_ReadingsPassedOn_pulse :
    let s := withPoint .legacyCoded { PointRecord.reset with reading := .normal, lastGood := some false }
    let u := withPoint .legacyCoded { PointRecord.reset with
      reading := .normal, lastGood := some false
      decoder := { Decoder.empty with state := .gap, count := 1, lastPulseEnd := some 971200 } }
    (s.serving ∧ s.pointType 4 = .legacyCoded ∧ (s.point 4).isolated = false ∧ (s.point 4).lastGood = some (!true)
      ∧ (s.point 4).reading ≠ .openLoop ∧ (s.point 4).reading ≠ .short
      ∧ (s.point 4).filterFrom + codedFilterTime ≤ s.now + 0 ∧ (s.point 4).decoder.state = .quiet)
      ∧ (u.point 4).decoder.state = .gap ∧ ∀ last ∈ (u.point 4).decoder.lastPulseEnd, u.now + 0 ≤ last + millis 3000 := by
  decide

theorem witness_ReadingsPassedOn_pulse_end :
    let at_ (start : Time) := withPoint .legacyCoded { PointRecord.reset with
      reading := .active, lastGood := some true
      decoder := { Decoder.empty with state := .pulse, pulseStart := some start, continuous := some start } }
    let s := at_ 999232
    let u := at_ 999233
    (s.serving ∧ s.pointType 4 = .legacyCoded ∧ (s.point 4).isolated = false ∧ (s.point 4).lastGood = some (!false)
      ∧ (s.point 4).reading ≠ .openLoop ∧ (s.point 4).filterFrom + codedFilterTime ≤ s.now + 0
      ∧ (s.point 4).decoder.state = .pulse ∧ (s.point 4).decoder.pulseStart = some 999232
      ∧ millis 80 ≤ s.now + 0 - 999232)
      ∧ u.now + 0 - 999233 < millis 80 ∧ ∀ last ∈ (u.point 4).decoder.lastPulseEnd, u.now + 0 < last + millis 1200 := by
  decide

theorem witness_ReadingsPassedOn_passing :
    let s (type : PointType) := withPoint type PointRecord.reset
    ∀ type ∈ [PointType.leafPosition 0, .lockFeedback 0, .carAvailable 0 1, .carParked 0 1, .carKey 0 1, .mainsFail,
        .batteryLow, .level2Key, .level3Key, .level4Jumper],
      (s type).serving ∧ (s type).pointType 4 = type ∧ alarmType type = false ∧ ((s type).point 4).isolated = false
        ∧ ((s type).point 4).filterFrom + filterTime ≤ (s type).now + 0 ∧ (s type).hasCar 0 1 = true
        ∧ ((s type).lfc.leaves[(0 : Stair)]).isSome = true ∧ ((s type).lfu.banks[(0 : Bank)]).isSome = true := by decide

theorem witness_ContinuousRingReportsGeneral :
    let s := coded { Decoder.empty with state := .pulse, pulseStart := some 923199, continuous := some 923199 }
    s.serving ∧ s.pointType 1 = .legacyCoded ∧ (s.point 1).isolated = false
      ∧ (s.point 1).decoder.continuous = some 923199 ∧ 923199 + seconds 8 < s.now + 0 ∧ s.rgu.own.length < 16 := by decide

theorem witness_SupervisionTimersRaise_leaf :
    let l := { LeafRecord.reset with feedbackFrom := some 712000, closingFrom := some 712000 }
    let s := joined.setLeaf 0 l
    s.serving ∧ s.settled ∧ s.lfc.leaves[(0 : Stair)] = some l ∧ l.feedbackFrom = some 712000
      ∧ l.closingFrom = some 712000 ∧ 712000 + 3 * 9600 ≤ s.now + 0 ∧ 712000 + 30 * 9600 ≤ s.now + 0 := by decide

theorem witness_SupervisionTimersRaise_car :
    let s := { joined with lfu := { joined.lfu with banks := joined.lfu.banks.set 0 (some recalled) } }
    s.serving ∧ s.settled ∧ s.ssu.config.banks[(0 : Bank)] = some ⟨1, 2, 2, 60⟩ ∧ s.lfu.banks[(0 : Bank)] = some recalled
      ∧ hasCar ⟨1, 2, 2, 60⟩ 1 = true ∧ recalled.cars[(1 : Car)].timer = some 0 ∧ 0 + seconds 60 ≤ s.now + 0 := by decide

theorem witness_RhythmsToggle_hat :
    let r := { recalled with hat := .flashing, hatFrom := 995200 }
    let s := { joined with lfu := { joined.lfu with banks := joined.lfu.banks.set 0 (some r) } }
    s.serving ∧ s.settled ∧ s.ssu.config.banks[(0 : Bank)] = some ⟨1, 2, 2, 60⟩ ∧ s.lfu.banks[(0 : Bank)] = some r
      ∧ r.hat = .flashing ∧ r.hatFrom + 4800 ≤ s.now + 0 := by decide

theorem witness_RhythmsToggle_lamp : joined.serving ∧ joined.settled ∧ joined.eva.lampFrom + 4800 ≤ joined.now + 0 := by
  decide

theorem witness_RhythmsToggle_buzzer :
    let s := { joined with eva := { joined.eva with sounding := some .notice, buzzerFrom := 904960 } }
    s.serving ∧ s.settled ∧ s.eva.sounding = some .notice
      ∧ s.eva.buzzerFrom + (if s.eva.buzzerOn then 960 else 95040) ≤ s.now + 0 := by decide

/-- The station of `joined` with a phrase table in which each role is one clip, and a speaker queue. -/
def speaking (p : Pbu) : State :=
  { joined with
    acu := { Acu.reset with
      table := (((Vector.replicate 256 Phrase.empty).set 1 (.clip 141)).set 2 (.clip 142)).set 4 (.clip 144), state := .good }
    pbu := p }

theorem witness_GapRequestsRepetition :
    let s := speaking { Pbu.reset with program := .alert, playback := .gap, gapExpiry := some 1000000 }
    s.serving ∧ s.settled ∧ s.pbu.playback = .gap ∧ s.pbu.gapExpiry = some 1000000 ∧ 1000000 ≤ s.now + 0
      ∧ s.pbu.program ≠ .none ∧ s.pbu.inPlay = none ∧ s.pbu.queue = [] ∧ s.ssu.config.unconfigured = false := by decide

theorem witness_GapRequestsRepetition_walk :
    let s := speaking { Pbu.reset with program := .alert, playback := .gap, gapExpiry := some 1000000 }
    resolve s.walkView s.repetition = .ok ⟨[142], [], []⟩ := by rfl

/-- A clip in play at the head of two. -/
def playing (clips : List Clip) (c : Clip) (channel : Channel) : Pbu :=
  { Pbu.reset with
    program := .alert, playback := .playing, queue := [⟨[.alert], clips⟩], inPlay := some c, channel := channel }

theorem witness_ClipFetched_header :
    let s := speaking (playing [.clip 5, .clip 6] (.clip 5) .header)
    let h : ClipHeader := ⟨5, 65535, true⟩
    s.serving ∧ s.settled ∧ s.pbu.channel = .header ∧ s.pbu.inPlay = some (.clip 5) ∧ h.checkAgrees = true
      ∧ h.number = 5 ∧ 1 ≤ h.length ∧ h.length ≤ 65535 := by decide

theorem witness_ClipFetched_filled :
    let s := speaking { playing [.clip 5, .clip 6] (.clip 5) (.data 1) with blocks := (Vector.replicate 2 .empty).set 0 ⟨.filling, []⟩ }
    s.serving ∧ s.settled ∧ s.pbu.channel = .data 1 ∧ s.pbu.blockIn .filling = some 0 ∧ [0x55#8].length = min 256 1 := by decide

/-- A clip in play whose first block plays its one sample, and the other block stands as given. -/
def sounding (left : Nat) (since : Time) (other : Block) : State :=
  speaking { playing [.clip 5, .clip 6] (.clip 5) (.data left) with
    soundFrom := since, blocks := ((Vector.replicate 2 .empty).set 0 ⟨.playing, [0x55]⟩).set 1 other }

theorem witness_ClipFetched_sounded :
    let s := sounding 1 999998 ⟨.full, [0x56]⟩
    let u := sounding 1 999998 ⟨.filling, []⟩
    s.serving ∧ s.settled ∧ s.pbu.channel = .data 1 ∧ s.pbu.blockIn .playing = some 0
      ∧ 6 * (s.pbu.sounded + s.pbu.blocks[(0 : Fin 2)].data.length) ≤ 5 * (s.now + 0 - s.pbu.soundFrom)
      ∧ s.pbu.blocks[otherBlock 0].state = .full ∧ (u.serving ∧ u.settled) ∧ u.pbu.blockIn .playing = some 0
      ∧ u.pbu.blocks[otherBlock 0].state = .filling := by
  refine ⟨?_, ?_, ?_, ?_, ?_, ?_, ?_, ?_, ?_⟩ <;> decide

theorem witness_ClipFetched_sounding :
    let s := sounding 1 999999 ⟨.full, [0x56]⟩
    s.serving ∧ s.settled ∧ s.pbu.channel = .data 1 ∧ s.pbu.blockIn .playing = some 0
      ∧ 5 * (s.now + 0 - s.pbu.soundFrom) < 6 * (s.pbu.sounded + s.pbu.blocks[(0 : Fin 2)].data.length) := by
  refine ⟨?_, ?_, ?_, ?_, ?_⟩ <;> decide

theorem witness_ClipFetched_faulty :
    let s := speaking { playing [.clip 5, .tone] (.clip 5) .header with underrunFrom := some 980800 }
    s.serving ∧ s.settled ∧ s.pbu.inPlay = some (.clip 5) ∧ s.pbu.queue = [⟨[.alert], [.clip 5, .tone]⟩]
      ∧ s.pbu.changePending = false ∧ s.pbu.program ≠ .none ∧ s.pbu.waiting = none ∧ s.pbu.playback = .playing
      ∧ s.pbu.channel = .header ∧ s.pbu.underrunFrom = some 980800 ∧ 980800 + 2 * 9600 ≤ s.now + 0
      ∧ 5 ∉ s.pbu.faulted ∧ s.active (.internal .clipStore) .clipFault = false
      ∧ ∀ x ∈ (some ⟨0, 5, true⟩ : Option ClipHeader), x.checkAgrees = false ∨ x.number ≠ 5 ∨ x.length = 0 := by decide

theorem witness_WalkResolves :
    (5 ≤ 5 ∧ (speaking Pbu.reset).answersUnwalked [.allClear] = false)
      ∧ resolve (speaking Pbu.reset).walkView [.alert] = .ok ⟨[142], [], []⟩
      ∧ resolve (speaking Pbu.reset).walkView [.allClear] = .error ⟨.emptyEntry, 3, 1⟩ := ⟨by decide, rfl, rfl⟩

/-- A clip in play whose one sample has been sounded, at the head of a speaker queue. -/
def ending (p : Pbu) : State :=
  speaking { p with
    playback := .playing, inPlay := some (.clip 5), channel := .data 0, soundFrom := 999998
    blocks := (Vector.replicate 2 .empty).set 1 ⟨.playing, [0x55]⟩ }

/-- The clip of such a station has ended. -/
abbrev clipEnded (s : State) : Prop :=
  s.serving ∧ s.settled ∧ s.pbu.inPlay = some (.clip 5) ∧ s.pbu.playback = .playing ∧ s.pbu.channel = .data 0
    ∧ s.pbu.blockIn .playing = some 1 ∧ s.pbu.blocks[otherBlock 1].state = .empty
    ∧ 6 * (s.pbu.sounded + s.pbu.blocks[(1 : Fin 2)].data.length) ≤ 5 * (s.now + 0 - s.pbu.soundFrom)

theorem witness_ClipBoundaryPlaysNext :
    let s := ending { Pbu.reset with program := .alert, queue := [⟨[.alert], [.clip 5, .clip 6]⟩] }
    clipEnded s ∧ s.pbu.queue = [⟨[.alert], [.clip 5, .clip 6]⟩] ∧ s.pbu.changePending = false ∧ s.pbu.program ≠ .none
      ∧ s.pbu.waiting = none := ⟨by decide, rfl, rfl, by decide, rfl⟩

theorem witness_ClipBoundaryPlaysNext_gap :
    let s := ending { Pbu.reset with program := .alert, queue := [⟨[.alert], [.clip 5]⟩] }
    clipEnded s ∧ s.pbu.queue = [⟨[.alert], [.clip 5]⟩] ∧ s.pbu.changePending = false ∧ s.pbu.program ≠ .none
      ∧ s.pbu.waiting = none ∧ Role.alert ∈ [Role.alert] := ⟨by decide, rfl, rfl, by decide, rfl, by decide⟩

theorem witness_ClipBoundaryPlaysNext_one_shot :
    let s := ending { Pbu.reset with queue := [⟨[.allClear], [.clip 5]⟩, ⟨[.test], [.clip 6]⟩] }
    clipEnded s ∧ s.pbu.queue = [⟨[.allClear], [.clip 5]⟩, ⟨[.test], [.clip 6]⟩] ∧ s.pbu.changePending = false
      ∧ Role.evacuate ∉ [Role.allClear] ∧ Role.alert ∉ [Role.allClear] ∧ s.pbu.program = .none ∧ s.pbu.oneShots = [] :=
  ⟨by decide, rfl, rfl, by decide, by decide, rfl, rfl⟩

theorem witness_ClipBoundaryPlaysNext_pending :
    let s := ending { Pbu.reset with program := .alert, changePending := true, queue := [⟨[.evacuate], [.clip 5]⟩] }
    let u := ending { Pbu.reset with changePending := true, queue := [⟨[.alert], [.clip 5]⟩] }
    (clipEnded s ∧ s.pbu.changePending = true ∧ s.pbu.allClearDue = false ∧ s.pbu.program = .alert
      ∧ s.ssu.config.unconfigured = false) ∧ resolve s.walkView [.alert] = .ok ⟨[142], [], []⟩
      ∧ clipEnded u ∧ u.pbu.changePending = true ∧ u.pbu.program = .none ∧ u.pbu.oneShots = [] :=
  ⟨⟨by decide, rfl, rfl, rfl, rfl⟩, rfl, by decide, rfl, rfl, rfl⟩

theorem witness_ClipBoundaryPlaysNext_tone :
    let s := speaking { playing [.tone, .tone] .tone .stopped with toneFrom := 971200 }
    s.serving ∧ s.settled ∧ s.pbu.inPlay = some .tone ∧ s.pbu.queue = [⟨[.alert], [.tone, .tone]⟩]
      ∧ s.pbu.changePending = false ∧ s.pbu.program ≠ .none ∧ s.pbu.waiting = none ∧ s.pbu.playback = .playing
      ∧ s.pbu.toneFrom + 3 * 9600 ≤ s.now + 0 := by decide

theorem witness_PageStartsAndExpires_start :
    let c : Content := .pageStart (.floors 0x4000)
    hearing.serving ∧ hearing.lif.rx = .receiving ∧ hearing.lif.tx ≠ .sending ∧ judge (bytesOf c) = some (heardOf c)
      ∧ readPayload (heardOf c).kind (heardOf c).payload = some c ∧ hearing.pbu.page = none
      ∧ hearing.pbu.ownRequest = .none ∧ hearing.pbu.inScope = false ∧ hearing.inScopeOf (.floors 0x4000) = true := by
  decide +kernel

theorem witness_PageStartsAndExpires_expiry :
    let page : ActivePage := ⟨13, .all, 1000000⟩
    let s := { joined with pbu := { Pbu.reset with page := some page, playback := .paged, inScope := true, ownRequest := .owned } }
    s.serving ∧ s.pbu.page = some page ∧ page.expiry ≤ s.now + 0 ∧ s.pbu.ownRequest = .owned := by decide

theorem witness_CircuitSenseKept :
    joined.serving ∧ joined.settled ∧ joined.hasCircuit 0 = true ∧ joined.hasCircuit 1 = false := by decide

/-- A request in hand that has its answer. -/
def answering (h : InHand) : State := { joined with cpt := { joined.cpt with inHand := some h } }

theorem witness_PortErrorsCounted :
    let s := answering ⟨0x11, none, false⟩
    s.serving ∧ s.settled ∧ ((0 : Byte).toNat = 0 ∧ 17 < (18 : Byte).toNat)
      ∧ (1 ≤ (17 : Byte).toNat ∧ (17 : Byte).toNat ≤ 17 ∧ (List.replicate 17 (0 : Byte)).length = (17 : Byte).toNat)
      ∧ (1 ≤ (1 : Byte).toNat ∧ [(0x11 : Byte)].length = (1 : Byte).toNat ∧ [(0 : Byte), 0].length = 2
        ∧ [(0 : Byte), 0] ≠ wordBytes (checkCode [1, 0x11]))
      ∧ s.cpt.inHand.isSome = true ∧ requestFrame (.acknowledge 0 []) = some (0, 0x11, []) ∧ ([] : List Byte).length ≤ 16 := by decide +kernel

theorem witness_PortChecksRefuse :
    let s := { joined with cpt := Cpt.reset }
    s.serving ∧ s.settled ∧ s.cpt.inHand = none ∧ requestFrame (.manualRecall 0 [3]) = some (0, 0x24, [3])
      ∧ readRequest 0x24 [3] = none ∧ requestFrame (.manualRecall 0 [1]) = some (0, 0x24, [1])
      ∧ readRequest 0x24 [1] = some (.manualRecall 0) ∧ s.level < nativeLevel (.manualRecall 0)
      ∧ knownCode 0x04 = false := by decide

theorem witness_QueriesAnswered :
    joined.serving ∧ joined.settled ∧ joined.cpt.inHand = none ∧ 63 ≤ 63 ∧ viewItem 47 = true ∧ 127 < 128 := by decide

theorem witness_AcknowledgeTaken :
    let s := { joined with cpt := { Cpt.reset with key2 := true } }
    s.serving ∧ s.settled ∧ s.cpt.inHand = none ∧ 2 ≤ s.level := by decide

theorem witness_CommandsOffered :
    joined.serving ∧ joined.settled ∧ joined.cpt.inHand = none ∧ 3 ≤ joined.level ∧ joined.lif.tx ≠ .off
      ∧ joined.cpt.commands < 2 ∧ joined.lif.filled .command < 2 := by decide

theorem witness_CommandsOffered_busy :
    let s := { joined with cpt := { joined.cpt with commands := 2 } }
    s.serving ∧ s.settled ∧ s.cpt.inHand = none ∧ 3 ≤ s.level ∧ 2 ≤ s.cpt.commands := by decide

theorem witness_ResetAndTestOffered :
    joined.serving ∧ joined.settled ∧ joined.cpt.inHand = none ∧ joined.lif.tx ≠ .off ∧ 4 ≤ joined.level
      ∧ joined.rgu.epoch < 65535 ∧ joined.lif.filled .regimeReset = 0 ∧ joined.lif.filled .test = 0 := by decide

theorem witness_ResetAndTestOffered_last :
    let s := { joined with rgu := { joined.rgu with epoch := 65535 } }
    s.serving ∧ s.settled ∧ s.cpt.inHand = none ∧ s.lif.tx ≠ .off ∧ 3 ≤ s.level ∧ 65535 ≤ s.rgu.epoch := by decide

/-- The leaf record of `joined`. -/
def closedLeaf : LeafRecord := { LeafRecord.reset with lock := .locked, hold := .held }

theorem witness_SecurityRequestTaken :
    (joined.serving ∧ joined.settled) ∧ joined.leavesAgree ∧ (joined.cpt.inHand = none ∧ 2 ≤ joined.level
      ∧ joined.lfc.leaves[(0 : Stair)] = some closedLeaf ∧ joined.ssu.join = .joined ∧ joined.rgu.phase = .normal
      ∧ joined.sau.status[(0 : Stair)] = .inService ∧ joined.lfc.unlockAll = false) := ⟨by decide, by decide, by decide⟩

theorem witness_SecurityRequestTaken_refused :
    let s := { joined with
      rgu := { joined.rgu with phase := .alert }
      lfc := { joined.lfc with leaves := (Vector.replicate 4 none).set 0 (some .reset) } }
    (s.serving ∧ s.settled) ∧ s.leavesAgree ∧ (s.cpt.inHand = none ∧ 2 ≤ s.level
      ∧ s.lfc.leaves[(0 : Stair)] = some .reset ∧ s.rgu.phase ≠ .normal
      ∧ s.active (.leaf 0) .reentryRefused = false) := ⟨by decide, by decide, by decide⟩

theorem witness_PageRequested_start :
    joined.serving ∧ joined.settled ∧ joined.cpt.inHand = none ∧ 2 ≤ joined.level ∧ joined.lif.tx ≠ .off
      ∧ joined.lif.inSlot .page = none ∧ readScope 0 [0, 0, 0, 0, 0, 0, 0, 1] = some (.floors 0x100000000000000)
      ∧ [(0 : Byte), 0, 0, 0, 0, 0, 0, 1].length = 8 ∧ joined.pbu.page = none ∧ joined.pbu.ownRequest = .none := by decide

theorem witness_PageRequested_stop :
    let s := { joined with pbu := { joined.pbu with ownRequest := .owned, page := some ⟨13, .all, 2000000⟩ } }
    s.serving ∧ s.settled ∧ s.cpt.inHand = none ∧ 2 ≤ s.level ∧ s.lif.tx ≠ .off ∧ s.lif.inSlot .page = none
      ∧ s.pbu.ownRequest = .owned := by decide

theorem witness_IsolationTaken :
    let s := joined.setPoint 0 fun r => { r with isolated := true }
    s.serving ∧ s.settled ∧ s.cpt.inHand = none ∧ 3 ≤ s.level ∧ (s.point 0).isolated = true
      ∧ (s.point 31).isolated = false ∧ keyType (s.pointType 31) = false ∧ keyType (s.pointType 3) = true := by decide

theorem witness_TestAnnounceTaken_playing :
    let s := speaking (playing [.clip 5, .clip 6] (.clip 5) .header)
    s.serving ∧ s.settled ∧ s.cpt.inHand = none ∧ 3 ≤ s.level ∧ s.rgu.phase = .normal ∧ OneShot.test ∉ s.pbu.oneShots
      ∧ (∀ a ∈ s.pbu.queue, Role.test ∉ a.roles) ∧ (s.pbu.playback = .playing ∨ s.pbu.playback = .gap) := by decide

theorem witness_TestAnnounceTaken_silent :
    let s := speaking Pbu.reset
    s.serving ∧ s.settled ∧ s.cpt.inHand = none ∧ 3 ≤ s.level ∧ s.rgu.phase = .normal ∧ OneShot.test ∉ s.pbu.oneShots
      ∧ (∀ a ∈ s.pbu.queue, Role.test ∉ a.roles) ∧ s.pbu.playback = .silent ∧ s.pbu.program = .none
      ∧ s.pbu.oneShots = [] ∧ s.pbu.queue = [] ∧ s.pbu.inPlay = none := by decide

theorem witness_TestAnnounceTaken_walk :
    resolve (speaking Pbu.reset).walkView [.test] = .ok ⟨[144], [], []⟩ := by rfl

theorem witness_BuzzerMaskSet : joined.serving ∧ joined.settled ∧ joined.cpt.inHand = none ∧ 3 ≤ joined.level := by decide

theorem witness_RestartFollowsAnswer_asked :
    joined.serving ∧ joined.settled ∧ joined.cpt.inHand = none ∧ 4 ≤ joined.level ∧ joined.lif.tx ≠ .off
      ∧ joined.lif.filled .test = 0 := by decide

theorem witness_RestartFollowsAnswer_sent :
    let h : InHand := ⟨0x32, some (answerFrame .accepted []), true⟩
    let s := answering h
    s.serving ∧ s.settled ∧ s.cpt.inHand = some h ∧ h.answer.isSome = true ∧ h.restart = true := by decide +kernel

theorem witness_RestartFollowsAnswer_starting :
    atImage.live = true ∧ atImage.entered = false ∧ requestFrame (.queryStairs 5 []) = some (5, 0x03, []) := by decide

theorem witness_AnswerSentFreesPort :
    let h : InHand := ⟨0x11, some (answerFrame .accepted [0, 0]), false⟩
    let s := answering h
    let u := answering ⟨0x16, none, false⟩
    (s.serving ∧ s.settled ∧ s.cpt.inHand = some h ∧ h.answer.isSome = true ∧ h.restart = false)
      ∧ u.serving ∧ u.settled ∧ u.cpt.inHand = some ⟨0x16, none, false⟩ := ⟨by decide +kernel, by decide +kernel⟩

theorem witness_InvokeDelegates :
    let d : Delegation := ⟨0x27, [2], .setBuzzerMask ⟨false, true, false⟩, 2⟩
    let s := { joined with cpt := { Cpt.reset with key2 := true, delegation := Cpt.reset.delegation.set 15 (some d) } }
    let u := { s with cpt := { s.cpt with key2 := false } }
    (s.serving ∧ s.settled ∧ s.cpt.inHand = none ∧ s.cpt.delegation[(0 : Fin 16)] = none
      ∧ s.cpt.delegation[(15 : Fin 16)] = some d ∧ d.level ≤ s.level) ∧ u.serving ∧ u.settled ∧ u.level < d.level :=
  ⟨by decide, by decide⟩

theorem witness_InvokeDelegates_direct :
    let d : Delegation := ⟨0x27, [2], .setBuzzerMask ⟨false, true, false⟩, 2⟩
    let s := { joined with cpt := { joined.cpt with delegation := joined.cpt.delegation.set 15 (some d) } }
    s.serving ∧ s.settled ∧ s.cpt.inHand = none ∧ s.cpt.delegation[(15 : Fin 16)] = some d
      ∧ requestFrame (.setBuzzerMask 0 [2]) = some (0, 0x27, [2]) ∧ readRequest 0x27 [2] = some d.request
      ∧ (∀ k, d.request ≠ .invoke k) ∧ nativeLevel d.request ≤ s.level ∧ 16 ≤ (16 : Byte).toNat := by
  refine ⟨?_, ?_, ?_, ?_, ?_, ?_, ?_, ?_, ?_⟩
  all_goals first | decide | (intro k; exact Request.noConfusion)

theorem witness_PayloadReadsBack :
    (Content.regimeReset 65535 4).inRange = true ∧ (Content.status { status31 with loads := Vector.replicate 4 65535 }).inRange = true
      ∧ (Content.lift ⟨0, .alternate, .manual, [.parked, .withdrawn, .firefighter, .normal]⟩).inRange = true := by decide

theorem witness_BulletinJudged : (Content.test 255).inRange = true ∧ (Content.release ⟨65535, 63, false, [1023]⟩).inRange = true := by
  decide

theorem witness_SplitSumsToOccupancy :
    (∃ st : Stair, st.val < site.stairCount ∧ (Vector.replicate 4 StairStatus.inService)[st] = .inService)
      ∧ (∀ st : Stair, st.val < site.stairCount → (Vector.replicate 4 StairStatus.smokeLogged)[st] = .smokeLogged) := by decide

theorem witness_RotorsAdvanceOnce :
    let s := speaking Pbu.reset
    let full := speaking { Pbu.reset with queue := [⟨[.alert], List.replicate 32 .tone⟩] }
    s.answersUnwalked [.alert] = false ∧ s.pbu.room = 32 ∧ full.pbu.room < 1
      ∧ { s with ssu := { s.ssu with config := { site with unconfigured := true } } }.answersUnwalked [.alert] = true := by decide

theorem witness_RotorsAdvanceOnce_walk :
    resolve (speaking Pbu.reset).walkView [.alert] = .ok ⟨[142], [], []⟩
      ∧ resolve (speaking Pbu.reset).walkView [.allClear] = .error ⟨.emptyEntry, 3, 1⟩ := ⟨rfl, rfl⟩

/-- A phrase table image with a script of nine and a good clip. -/
def someImage : PhraseImage := ⟨.script (List.replicate 9 0) :: .clip 1023 :: List.replicate 254 .empty, true⟩

theorem witness_FailedRecordsLoadEmpty :
    someImage.checkAgrees = true ∧ someImage.records.length = 256 ∧ someImage.records[0]? = some (.script (List.replicate 9 0)) := by
  decide +kernel

/-! ## Invariants met by a station that runs -/

/-- A command waiting at the station of `joined`: a step that gives a next state. -/
def waiting : State := { joined with pending := [.refreshExpiry 0] }

theorem witness_step_next : step waiting = exec (.refreshExpiry 0) joined := by rfl

theorem witness_EventListKept : waiting.eva.ok := by decide
theorem witness_TransmitQueueKept : waiting.lineOk := by decide
theorem witness_PhaseFollowsRelease : waiting.sequenced ∧ waiting.phaseAgrees := by decide
theorem witness_LeafCommandsFollow : waiting.sequenced ∧ waiting.leavesAgree := by decide
theorem witness_RecallsKept : waiting.sequenced ∧ waiting.liftsAgree := by decide
theorem witness_StatusFollowsValues : waiting.lineOk ∧ waiting.settled := by decide
theorem witness_StairQueuesKept :
    waiting.queuesOk ∧ ∀ st : Stair, waiting.sau.load st ≤ 1023 * flagCount waiting.sau.released := by decide
theorem witness_DerivedValuesKept :
    waiting.ownSetOk ∧ waiting.speakerOk ∧ waiting.sequenced ∧ waiting.programAgrees ∧ waiting.supplyAgrees := by decide
theorem witness_EpochNeverFalls :
    restarts (.powerOn 0) joined = true ∧ (∀ straps : Fin 64, Instr.powerOn 0 ≠ .answerSent 0 straps)
      ∧ restarts (.refreshExpiry 0) joined = false := by decide

/-! ### Claims (R72 to R77, R97 to R100) -/

/-- What a command leaves. -/
def left (i : Instr) (s : State) : State :=
  match exec i s with
  | .next t => t
  | .fault _ | .refused _ => s

/-- The station of `joined`, on the roster, with a fire reported on floor `f` and persons in the queue of stair 2. -/
def facing (f : Floor) (persons : Nat) : State :=
  { joined with
    bdr := { joined.bdr with roster := (Vector.replicate 63 none).set 13 (some
      { RosterRecord.fresh with floor := some 14, lastEpoch := some 0, phase := some .normal, supply := some .mains }) }
    rgu := { Rgu.reset with
      stored := (Vector.replicate 63 none).set 30 (some [⟨some f, .detector⟩])
      map := mapOf [(some 30, [⟨some f, .detector⟩])] }
    sau := { joined.sau with released := 0x800, queues := (Vector.replicate 4 []).set 1 [⟨some 11, persons, 0⟩] } }

/-- That station in CLAIMING, with its claim and the entry of its RELEASE. -/
def claiming (s : State) (mode : ClaimSort) (record : ClaimState) (old : Bool) (e : TxEntry) : State :=
  { s with
    bdr := { s.bdr with roster := s.bdr.roster.map fun r => r.map fun r => { r with phase := some .claiming } }
    rgu := { s.rgu with phase := .claiming, mode := mode.mode }
    sau := { s.sau with claim := ⟨record, mode, ⟨0, 14, mode == .forced, [55, 55]⟩, old⟩ }
    lif := { Lif.reset with
      rx := .receiving, queue := [e]
      tx := match e.state with
        | .waiting => .ready
        | .arbitrating => .arbitrating
        | .sending => .sending } }

/-- The entry of its NON_FORCED claim, and that of its FORCED one. -/
def ownRelease (state : EntryState) : TxEntry := entryAt state (.release ⟨0, 14, false, [55, 55]⟩)
def ownForced (state : EntryState) : TxEntry := entryAt state (.release ⟨0, 14, true, [55, 55]⟩)

/-- Drain ticks that make a claim, leave ALERT or NORMAL, keep a claim, make it forced, and take it back from each state
of its entry. -/
def drainCases : List State :=
  [facing 13 100, facing 12 100, facing 12 200, { facing 12 100 with rgu := Rgu.reset },
    claiming (facing 13 100) .nonForced .queued false (ownRelease .waiting),
    claiming (facing 12 200) .nonForced .queued false (ownRelease .waiting),
    claiming (facing 12 200) .nonForced .queued false (ownRelease .arbitrating),
    claiming (facing 12 200) .nonForced .queued false (ownRelease .sending),
    claiming (facing 12 200) .nonForced .queued true (ownRelease .sending),
    claiming (facing 12 200) .nonForced .fixed false { ownRelease .sending with withdrawn := true }]

theorem witness_DrainTickDrains_evaluates :
    ∀ s ∈ drainCases, (s.serving ∧ s.sau.drainNext = some 1000000 ∧ 1000000 ≤ s.now + 0) ∧ s.ssu.config.unconfigured = false
      ∧ s.ownFloor = some 14 ∧ flagged s.sau.released 14 = false
      ∧ (∃ st : Stair, (left (.drainTick 0) s).sau.load st ≠ s.sau.load st) := by decide +kernel

theorem witness_DrainTickDrains_ok : (∀ s ∈ drainCases, s.lineOk) ∧ ∀ s ∈ drainCases, s.settled :=
  ⟨by decide +kernel, by decide +kernel⟩

theorem witness_DrainTickDrains_forced :
    let s := facing 13 100
    let t := left (.drainTick 0) s
    exec (.drainTick 0) s = .next t ∧ s.rgu.phase = .normal ∧ t.fireInView ∧ t.neighbour 14 ∧ s.lif.tx ≠ .off
      ∧ s.lif.inSlot .release = none := ⟨rfl, by decide +kernel⟩

theorem witness_DrainTickDrains_non_forced :
    let s := facing 12 100
    let t := left (.drainTick 0) s
    exec (.drainTick 0) s = .next t ∧ s.rgu.phase = .normal ∧ t.fireInView ∧ ¬ t.neighbour 14 ∧ s.ssu.join ≠ .joining
      ∧ t.admits 14 ∧ s.lif.tx ≠ .off := ⟨rfl, by decide +kernel⟩

theorem witness_DrainTickDrains_alert :
    let t := left (.drainTick 0) (facing 12 200)
    t.fireInView ∧ ¬ t.neighbour 14 ∧ t.firstInOrder 14 ∧ ¬ t.splitFits
      ∧ ¬ (left (.drainTick 0) { facing 12 100 with rgu := Rgu.reset }).fireInView := by decide +kernel

theorem witness_DrainTickDrains_kept :
    let s := claiming (facing 13 100) .nonForced .queued false (ownRelease .waiting)
    s.rgu.phase = .claiming ∧ s.rgu.mode ≠ .none ∧ s.sau.claim.state = .queued
      ∧ s.lif.inSlot .release = some (ownRelease .waiting) ∧ (ownRelease .waiting).latest = .release s.sau.claim.content
      ∧ ¬ s.claimGoes (left (.drainTick 0) s) 14 := by decide +kernel

theorem witness_DrainTickDrains_withdrawn :
    ∀ state ∈ [EntryState.waiting, .arbitrating, .sending], ∀ old ∈ [false, true],
      let e := ownRelease state
      let s := claiming (facing 12 200) .nonForced .queued old e
      s.lif.inSlot .release = some e ∧ e.latest = .release s.sau.claim.content ∧ e.withdrawn = false
        ∧ s.claimGoes (left (.drainTick 0) s) 14 := by decide +kernel

theorem witness_DrainTickDrains_fixed :
    let s := claiming (facing 12 200) .nonForced .fixed false { ownRelease .sending with withdrawn := true }
    s.rgu.phase = .claiming ∧ s.sau.claim.state = .fixed := by decide

theorem witness_DrainTickDrains_nothing :
    (left (.drainTick 0) joined).sau.queues = joined.sau.queues := by decide +kernel

/-! ### Withdrawn entries on the line (R15) -/

/-- The station of `joined` with a withdrawn entry on the line, by its content. -/
def withdrawing (state : EntryState) (tx : TxState) (c : Content) : State :=
  transmitting tx { entryAt state c with withdrawn := true, losses := 15, abandons := 7 }

/-- A withdrawn claim on the line, of the own epoch and of an older one. -/
def claimGoing (state : EntryState) (record : ClaimState) : State :=
  claiming (facing 12 200) .nonForced record false { ownRelease state with withdrawn := true }
def oldGoing (state : EntryState) : State :=
  let s := facing 12 200
  claiming { s with
    bdr := { s.bdr with roster := s.bdr.roster.map fun r => r.map fun r => { r with lastEpoch := some 1 } }
    rgu := { s.rgu with epoch := 1 } } .nonForced .queued true { ownRelease state with withdrawn := true }

/-- The states in which a withdrawn entry loses or wins its arbitration byte, or meets a bit error. -/
def goingCases : List State :=
  [withdrawing .arbitrating .arbitrating (.condition 0 []), withdrawing .arbitrating .arbitrating (.pageStart .all),
    withdrawing .sending .sending (.condition 0 []), withdrawing .sending .sending .pageStop,
    claimGoing .arbitrating .queued, oldGoing .arbitrating, claimGoing .sending .fixed, oldGoing .sending]

theorem witness_withdrawn_serves : ∀ s ∈ goingCases, s.serving ∧ (s.lif.tx = .arbitrating ∨ s.lif.tx = .sending)
    ∧ ∃ e ∈ s.lif.onLine, e.withdrawn = true := by decide
theorem witness_withdrawn_lineOk : ∀ s ∈ goingCases, s.lineOk := by decide +kernel
theorem witness_withdrawn_settled : ∀ s ∈ goingCases, s.settled := by decide +kernel

theorem witness_ArbitrationDecides_release :
    let s := claimGoing .arbitrating .queued
    s.ownFloor = some 14 ∧ s.ssu.config.unconfigured = false ∧ flagged s.sau.released 14 = false
      ∧ s.rgu.phase = .claiming ∧ s.sau.claim.state = .queued ∧ s.rgu.epoch = 0
      ∧ (oldGoing .arbitrating).rgu.epoch = 1 ∧ flagged (oldGoing .arbitrating).sau.released 14 = false := by decide

theorem witness_BitErrorBreaks_release :
    let s := claimGoing .sending .fixed
    s.rgu.phase = .claiming ∧ s.sau.claim.state ≠ .none ∧ s.rgu.epoch = 0 ∧ (oldGoing .sending).rgu.epoch = 1 := by
  decide

/-! ### The banks and the claim follow a CONDITION (R130 to R134, R144) -/

/-- What a CONDITION of station 31 leaves. -/
def heardBy (s : State) (l : List Entry) : State := left (.bulletinEnd 0 (.complete (bytesOf (.condition 0 l)))) s

theorem witness_ReportsHeardKept_fire :
    let l : List Entry := [⟨some 1, .lobby⟩]
    let t := heardBy hearing l
    (exec (.bulletinEnd 0 (.complete (bytesOf (.condition 0 l)))) hearing = .next t)
      ∧ (hearing.liftsAgree ∧ t.fireInView ∧ ¬ hearing.fireInView ∧ BankRecord.reset.cause = .none)
      ∧ (hearing.lineOk ∧ hearing.settled) ∧ hearing.ssu.config.unconfigured = false ∧ hearing.ownFloor = some 14
      ∧ flagged hearing.sau.released 14 = false := ⟨rfl, by decide +kernel, by decide, by decide⟩

/-- A bank under fire recall from a view in which no lobby was in fire. -/
def redirected : State :=
  let s := { facing 20 0 with lif := hearing.lif }
  { s with
    lfu := { s.lfu with banks := s.lfu.banks.set 0 (some { recalled with fireLatch := true, manual := false, cause := .fire }) } }

theorem witness_ReportsHeardKept_redirect :
    let t := heardBy redirected [⟨some 1, .lobby⟩]
    redirected.liftsAgree ∧ (∀ r ∈ redirected.lfu.banks[(0 : Bank)], r.cause ≠ .none ∧ r.landing = .designated)
      ∧ t.rgu.map.lobbyFire 1 = true ∧ t.rgu.map.lobbyFire 2 = false ∧ redirected.rgu.map.lobbyFire 1 = false := by
  decide +kernel

/-! ### Reports (R46, R51 to R53, R65 to R67) -/

theorem witness_CallPointReportsFloor_types :
    let s (type : PointType) := withPoint type PointRecord.reset
    ∀ type ∈ [PointType.detector 0, .lobby 0, .stairSmoke 0, .machineRoom 0, .hoistway 0, .legacyGeneral],
      (s type).serving ∧ (s type).pointType 4 = type ∧ ((s type).point 4).isolated = false
        ∧ ((s type).point 4).lastGood ≠ some true ∧ ((s type).point 4).logical = .normal
        ∧ ((s type).point 4).filterFrom + filterTime ≤ (s type).now + 0
        ∧ (s type).ssu.config.points[(4 : Point)].verification = false ∧ (∀ g : Group, (s type).ptu.cuts[g] = none)
        ∧ (s type).lfu.banks[(0 : Bank)] = some .reset := by decide

theorem witness_CallPointReportsFloor_follows :
    let s (type : PointType) := withPoint type PointRecord.reset
    ((s (.stairSmoke 0)).sau.status[(0 : Stair)] = .inService
      ∧ (s (.stairSmoke 0)).sau.smokeOffer[(0 : Stair)] ≠ some (s (.stairSmoke 0)).rgu.epoch)
      ∧ (s (.machineRoom 0)).liftsAgree := by decide

/-- A whole set, in which the own floor has no entry. -/
def fullSet : List Entry := (List.range 16).map fun n => ⟨some (Fin.ofNat 64 (20 + n)), .legacyZone⟩

theorem witness_CallPointReportsFloor_answers :
    let s (own : List Entry) := { joined with rgu := { Rgu.reset with own := own } }
    (⟨joined.ownFloor, .callPoint⟩ : Entry) ∈ (s [⟨some 14, .callPoint⟩]).rgu.own
      ∧ (⟨joined.ownFloor, .callPoint⟩ : Entry) ∉ (s fullSet).rgu.own ∧ 16 ≤ (s fullSet).rgu.own.length
      ∧ (s fullSet).serving ∧ ((s fullSet).point 0).armed = true ∧ (s fullSet).pointType 0 = .callPoint := by decide

/-! ### The inputs of a car (R135 to R140) -/

/-- A bank under manual recall with its second car in a state. -/
def withCar (type : PointType) (lastGood : Bool) (cause : RecallCause) (k : CarRecord) : State :=
  let s := withPoint type { PointRecord.reset with lastGood := some lastGood }
  let r := { recalled with
    manual := cause == .manual, cause := cause, landing := if cause = .none then .none else .designated
    cars := (Vector.replicate 4 .reset).set 1 k }
  { s with lfu := { s.lfu with banks := s.lfu.banks.set 0 (some r) } }

/-- Each transition of R135 that an input of a car makes: the role, the value taken, the cause and the car. -/
def carCases : List (PointType × Bool × RecallCause × CarRecord) :=
  [(.carAvailable 0 1, false, .manual, { CarRecord.reset with available := true, state := .recalling }),
    (.carAvailable 0 1, true, .manual, { CarRecord.reset with available := false, state := .withdrawn }),
    (.carParked 0 1, true, .manual, { CarRecord.reset with parked := false, state := .recalling }),
    (.carParked 0 1, false, .manual, { CarRecord.reset with parked := true, state := .parked }),
    (.carKey 0 1, true, .manual, { CarRecord.reset with key := false, state := .parked }),
    (.carKey 0 1, false, .manual, { CarRecord.reset with key := true, state := .firefighter }),
    (.carKey 0 1, false, .none, { CarRecord.reset with key := true, state := .firefighter })]

theorem witness_ReadingsPassedOn_cars :
    ∀ x ∈ carCases, let s := withCar x.1 (!x.2.1) x.2.2.1 x.2.2.2
      s.serving ∧ s.pointType 4 = x.1 ∧ alarmType x.1 = false ∧ (s.point 4).isolated = false
        ∧ (s.point 4).filterFrom + filterTime ≤ s.now + 0
        ∧ (∀ r ∈ s.lfu.banks[(0 : Bank)], r.cars[(1 : Car)] = x.2.2.2 ∧ r.cause = x.2.2.1)
        ∧ ∃ cfg ∈ s.ssu.config.banks[(0 : Bank)], (1 : Car).val < cfg.carCount := by decide

theorem witness_ReadingsPassedOn_supply :
    let s := withPoint .mainsFail PointRecord.reset
    s.ssu.supply = .mains ∧ (left (.readingTaken 0 4 .active) s).ssu.supply = .battery := by decide +kernel

/-! ### Pages (R176, R177) -/

/-- The station of `joined` with a page of station 31, or none, its own request, and the entry of its own PAGE. -/
def paging (page : Option ActivePage) (own : OwnRequest) (queue : List TxEntry) (tx : TxState) : State :=
  { joined with
    lif := { Lif.reset with rx := .receiving, tx := tx, queue := queue }
    pbu := { Pbu.reset with page := page, ownRequest := own }
    cpt := { joined.cpt with inHand := if own = .startPending then some ⟨0x16, none, false⟩ else none } }

/-- The states that another station's PAGE START meets. -/
def pageCases : List State :=
  [paging none .startPending [entryAt .waiting (.pageStart .all)] .ready,
    paging none .startPending [entryAt .arbitrating (.pageStart .all)] .arbitrating,
    paging (some ⟨30, .all, 0⟩) .startPending [entryAt .waiting (.pageStart .all)] .ready,
    paging (some ⟨13, .all, 0⟩) .owned [] .ready,
    paging (some ⟨13, .all, 0⟩) .stopPending [entryAt .waiting .pageStop] .ready,
    paging (some ⟨13, .all, 0⟩) .stopPending [entryAt .arbitrating .pageStop] .arbitrating,
    paging (some ⟨30, .all, 0⟩) .none [] .ready]

theorem witness_PageStartsAndExpires_heard :
    (let c : Content := .pageStart .all; judge (bytesOf c) = some (heardOf c)
        ∧ readPayload (heardOf c).kind (heardOf c).payload = some c ∧ judge (bytesOf .pageStop) = some (heardOf .pageStop)
        ∧ readPayload (heardOf .pageStop).kind (heardOf .pageStop).payload = some .pageStop)
      ∧ ∀ s ∈ pageCases, s.serving ∧ s.lif.rx = .receiving ∧ s.lif.tx ≠ .sending ∧ s.lineOk
        ∧ s.pbu.inScope = false := by decide +kernel

theorem witness_PageStartsAndExpires_sent :
    ∀ s ∈ [paging none .startPending [entryAt .sending (.pageStart .all)] .sending,
        paging none .late [{ entryAt .sending (.pageStart .all) with withdrawn := true }] .sending,
        paging (some ⟨30, .all, 0⟩) .late [{ entryAt .sending (.pageStart .all) with withdrawn := true }] .sending,
        paging none .stopLate [{ entryAt .sending .pageStop with withdrawn := true }] .sending],
      s.serving ∧ s.lif.rx = .receiving ∧ s.lif.tx = .sending ∧ s.lineOk ∧ s.pbu.inScope = false := by decide

theorem witness_PageStartsAndExpires_stop :
    let s := paging (some ⟨30, .all, 0⟩) .none [] .ready
    s.serving ∧ s.lif.rx = .receiving ∧ (∀ page ∈ s.pbu.page, page.owner = (heardOf .pageStop).sender)
      ∧ ∀ page ∈ (paging (some ⟨29, .all, 0⟩) .none [] .ready).pbu.page, page.owner ≠ (heardOf .pageStop).sender := by decide

theorem witness_PageStartsAndExpires_lost :
    let s := { paging (some ⟨30, .all, 0⟩) .none [] .ready with
      bdr := { joined.bdr with roster := joined.bdr.roster.set 30 (some { RosterRecord.fresh with silent := 2 }) } }
    s.serving ∧ s.pbu.page = some ⟨30, .all, 0⟩ ∧ s.isOwn 30 = false
      ∧ s.bdr.roster[(30 : Sender)] = some { RosterRecord.fresh with silent := 2 } ∧ s.bdr.refreshNext = some 1000000
      ∧ 1000000 ≤ s.now + 0 := by decide

theorem witness_PageStartsAndExpires_stop_pending :
    let s := paging (some ⟨13, .all, 1000000⟩) .stopPending [entryAt .sending .pageStop] .sending
    s.serving ∧ s.lineOk ∧ s.pbu.page = some ⟨13, .all, 1000000⟩ ∧ 1000000 ≤ s.now + 0 := by decide

/-! ### Own bulletins heard back (R4, R10) -/

/-- The bulletin of station 14 (held as 13) itself, as its own receiver reads it. -/
def ownBytes (c : Content) : List Byte := bulletinBytes .regime 13 c
def ownHeard (c : Content) : Heard := ⟨13, c.kind, c.payload⟩

/-- The premises of a bulletin of content `c` that the station itself sent. -/
abbrev heardBack (s : State) (c : Content) : Prop :=
  s.serving ∧ s.lif.rx = .receiving ∧ s.lif.tx = .sending ∧ judge (ownBytes c) = some (ownHeard c)
    ∧ readPayload (ownHeard c).kind (ownHeard c).payload = some c ∧ s.isOwn (ownHeard c).sender = true

/-- A content of each kind but TEST, none of an epoch that is not the own. -/
def ownContents : List Content :=
  [.condition 0 [⟨some 14, .callPoint⟩], .stair 0 0 .smokeLogged, .release (joined.claimContent true), .regimeReset 1 3,
    .command (.manualRecall 0) 3, .command .silenceAlert 2, .pageStop, .lift ⟨0, .none, .none, [.normal, .normal]⟩,
    .status joined.statusReport]

theorem witness_OwnTransmissionCompletes_heard :
    ∀ c ∈ ownContents, let e := entryAt .sending c
      heardBack (transmitting .sending e) c ∧ (transmitting .sending e).lif.onLine = some e ∧ e.content = c
        ∧ e.pending = none ∧ ((∀ ep ∈ c.epoch?, ep ≤ 0) ∨ e.slot = .regimeReset) := by decide +kernel

theorem witness_OwnTransmissionCompletes_settled :
    ∀ c ∈ ownContents, (transmitting .sending (entryAt .sending c)).settled
      ∧ (transmitting .sending (entryAt .sending c)).lineOk := by
  intro c hc
  exact ⟨by revert c; decide, by revert c; decide⟩

theorem witness_OwnTransmissionCompletes_release :
    let e := entryAt .sending (.release (joined.claimContent true))
    let s := transmitting .sending e
    let t := { s with sau := { s.sau with claim := { s.sau.claim with state := .queued } } }
    ((joined.claimContent true).epoch = s.rgu.epoch ∧ (joined.claimContent true).floor = s.claimFloor)
      ∧ t.serving ∧ e.slot = .release ∧ t.sau.claim.state = .queued ∧ t.ownFloor ≠ none := by decide

theorem witness_OwnTransmissionCompletes_stair :
    let e := { entryAt .sending (.stair 0 0 .smokeLogged) with pending := some (.stair 0 0 .smokeLogged) }
    e.slot = .stair 0 ∧ (∀ ep ∈ e.content.epoch?, ep ≤ (transmitting .sending e).rgu.epoch)
      ∧ e.pending.bind Content.epoch? = some 0 := by decide

theorem witness_OwnTransmissionCompletes_anew :
    let e := { entryAt .sending (.condition 0 [⟨some 14, .callPoint⟩]) with
      pending := some (.condition 0 [⟨some 14, .callPoint⟩, ⟨some 14, .detector⟩]), losses := 3, abandons := 1 }
    let s := transmitting .sending e
    (s.serving ∧ s.settled ∧ e.slot.limit = none ∧ e.slot ≠ .release ∧ s.lif.onLine = some e) ∧ s.lineOk :=
  ⟨by decide, by decide⟩

theorem witness_OwnTransmissionCompletes_old_release :
    let r := joined.claimContent true
    let e := entryAt .sending (.release r)
    let s := { transmitting .sending e with
      rgu := { Rgu.reset with epoch := 1 }
      sau := { joined.sau with claim := { joined.sau.claim with oldCopy := true } }
      bdr := { joined.bdr with roster := Vector.replicate 63 none } }
    (heardBack s (.release r) ∧ r.epoch < s.rgu.epoch ∧ s.ownFloor = some 14 ∧ s.ssu.config.unconfigured = false
      ∧ flagged s.sau.released 14 = false) ∧ s.settled ∧ s.lineOk :=
  ⟨by decide +kernel, by decide, by decide⟩

theorem witness_OwnTransmissionCompletes_good_test :
    let bytes : List Byte := [0xCE, Content.kind (.test 7), 1, 7]
    let bytes := bytes ++ wordBytes (checkCode bytes)
    let e := entryAt .sending (.test 7)
    judge bytes = some ⟨13, Content.kind (.test 7), [7]⟩ ∧ readPayload (Content.kind (.test 7)) [7] = some e.content
      ∧ e.slot = .test := by decide +kernel

theorem witness_ReleaseHeardJoinsQueues_own :
    let r := joined.claimContent true
    let s := transmitting .sending (entryAt .sending (.release r))
    heardBack s (.release r) ∧ r.epoch = s.rgu.epoch ∧ flagged s.sau.released r.floor = false
      ∧ s.ownFloor = some r.floor := by decide +kernel

theorem witness_ReportsHeardKept_own :
    ∀ c ∈ [Content.stair 0 0 .smokeLogged, .lift ⟨0, .none, .none, [.normal, .normal]⟩],
      heardBack (transmitting .sending (entryAt .sending c)) c
        ∧ (transmitting .sending (entryAt .sending c)).hears c := by
  intro c hc
  exact ⟨by revert c; decide +kernel, by revert c; decide⟩

theorem witness_ResetHeardStartsEpoch_own :
    let c : Content := .regimeReset 1 3
    let s := transmitting .sending (entryAt .sending c)
    heardBack s c ∧ s.hears c ∧ c.slot = .regimeReset ∧ c.epoch? = some 1 ∧ s.rgu.epoch < 1 :=
  ⟨by decide +kernel, by decide, by decide, by decide, by decide⟩

theorem witness_RecallCommandHeard_own :
    ∀ cmd ∈ [Command.manualRecall 0, .cancelRecall 0, .silenceAlert, .unlockStairs],
      let c : Content := .command cmd 3
      let s := transmitting .sending (entryAt .sending c)
      heardBack s c ∧ s.hears c ∧ s.liftsAgree ∧ s.leavesAgree := by
  intro cmd hc
  exact ⟨by revert cmd; decide +kernel, by revert cmd; decide, by revert cmd; decide, by revert cmd; decide⟩

/-! ### Faults of the line and the roster (R5, R6, R23, R33, R34, R36) -/

/-- A bulletin of station 31 of a kind that is none of the nine. -/
def strange : List Byte := [0x1F, 99, 0] ++ wordBytes (checkCode [0x1F, 99, 0])

theorem witness_StaleEpochAnswered_rejected :
    judge strange = some ⟨30, 99, []⟩ ∧ readPayload 99 [] = none ∧ hearing.isOwn 30 = false
      ∧ hearing.lif.inSlot .status = none := by decide +kernel

theorem witness_StaleEpochAnswered_duplicate :
    (let c : Content := .pageStop; judge (ownBytes c) = some (ownHeard c) ∧ hearing.isOwn (ownHeard c).sender = true)
      ∧ hearing.serving ∧ hearing.settled ∧ hearing.lif.rx = .receiving ∧ hearing.lif.tx ≠ .sending := by
  decide +kernel

theorem witness_StaleEpochAnswered_floors :
    let t := left (.bulletinEnd 0 (.complete (bytesOf (.status status31)))) { hearing with
      bdr := { hearing.bdr with roster := hearing.bdr.roster.set 29 (some { RosterRecord.fresh with floor := some 31 }) } }
    t.bdr.roster[(30 : Sender)] ≠ none ∧ t.sharesFloor 30 ∧ ¬ t.sharesFloor 28 := by decide +kernel

theorem witness_ReportsHeardKept_differ :
    let c : Content := .status { status31 with digest := 1 }
    judge (bytesOf c) = some (heardOf c) ∧ readPayload (heardOf c).kind (heardOf c).payload = some c
      ∧ (1 : Word) ≠ hearing.ssu.config.digest ∧ status31.digest = hearing.ssu.config.digest := by decide +kernel

theorem witness_RefreshExpires_conditions :
    let s := raise (.station 13) .duplicateStation (raise (.station 30) .bulletinRejected
      (raise (.internal .lineRx) .lineRxDegraded joined))
    s.serving ∧ s.settled ∧ s.bdr.refreshNext = some 1000000 ∧ s.lif.failures = 0 ∧ s.ssu.station = some 13
      ∧ s.lif.duplicateSeen = false ∧ s.bdr.rejectedSeen[(30 : Sender)] = false
      ∧ s.active (.internal .lineRx) .lineRxDegraded = true ∧ s.active (.station 13) .duplicateStation = true
      ∧ s.active (.station 30) .bulletinRejected = true := by decide +kernel

/-! ### The image and the queries (R202, R203, R207, R208) -/

/-- What the good image holds. -/
def goodConfig : StationConfig :=
  { unreadValues with
    stairCount := 2, capacity := Vector.replicate 4 200, drain := Vector.replicate 4 20
    ownFloor := some 14, occupancy := 110, shares := Vector.replicate 4 8
    points := Vector.replicate 32 ⟨.callPoint, false, false⟩
    banks := (Vector.replicate 2 none).set 0 (some ⟨1, 2, 4, 600⟩)
    digest := checkCode (digestBytes goodImage.building) }

theorem witness_GoodImageInRange_taken :
    goodImage.checkAgrees = true ∧ valuesInRange goodConfig ∧ imageHolds goodImage goodConfig := by
  refine ⟨rfl, ?_, ?_⟩ <;> decide +kernel

theorem witness_GoodImageInRange_unshared :
    let im := { goodImage with station := { goodImage.station with shares := Vector.replicate 4 0 } }
    ∃ cfg, readImage im = some cfg ∧ (∃ f : Floor, cfg.ownFloor = some f) ∧ ∀ st : Stair, cfg.shares[st] = 0 :=
  ⟨{ goodConfig with shares := Vector.replicate 4 0 }, by decide +kernel, ⟨14, rfl⟩, by decide⟩

/-- R203: floors 11 and 12 released, and on stair 2 a queue of 300 persons of floor 11 and 5 of a synthetic record. -/
theorem test_stairs_answer :
    let s := { joined with sau := { joined.sau with
      released := 0x1800, queues := joined.sau.queues.set 1 [⟨some 11, 300, 0⟩, ⟨none, 5, 0⟩] } }
    stairsBytes s = [0, 0x18, 0, 0, 0, 0, 0, 0, 0, 0, 0, 0, 0, 0, 200, 20, 0, 0, 0, 0,
      0, 0, 200, 20, 1, 49, 2, 2, 11, 1, 44, 255, 0, 5] := by decide +kernel

end Sys2Proof.Tests
end

section
/-! SUPPORT. What the Leaf Controller's operations make of the leaf records: the commands and the security overrides
(R114 to R116, R119, R121). -/

namespace Sys2Proof.Machine

/-! ## What the commands of a leaf are read from -/

/-- What R114 and R115 read, beside the security override of the leaf itself. -/
def State.commandInputs (s : State) : Bool × Phase × Vector StairStatus 4 × Join × Supply × StationConfig :=
  (s.lfc.unlockAll, s.rgu.phase, s.sau.status, s.ssu.join, s.ssu.supply, s.ssu.config)

/-- The leaf records, and what their commands are read from. -/
def State.leafInputs (s : State) := (s.lfc.leaves, s.commandInputs)

@[simp] theorem State.commandInputs_eq_iff {s t : State} :
    t.commandInputs = s.commandInputs ↔
      t.lfc.unlockAll = s.lfc.unlockAll ∧ t.rgu.phase = s.rgu.phase ∧ t.sau.status = s.sau.status
        ∧ t.ssu.join = s.ssu.join ∧ t.ssu.supply = s.ssu.supply ∧ t.ssu.config = s.ssu.config := by
  simp [State.commandInputs]

@[simp] theorem State.leafInputs_eq_iff {s t : State} :
    t.leafInputs = s.leafInputs ↔ t.lfc.leaves = s.lfc.leaves ∧ t.commandInputs = s.commandInputs := by
  simp [State.leafInputs]

theorem lockCommand_congr {s t : State} (h : t.commandInputs = s.commandInputs) (st : Stair) (v : Security) :
    t.lockCommand st v = s.lockCommand st v := by
  obtain ⟨hu, hp, hst, hj, -, hc⟩ := State.commandInputs_eq_iff.mp h
  simp only [State.lockCommand, hu, hp, hst, hj, hc]

theorem holdCommand_congr {s t : State} (h : t.commandInputs = s.commandInputs) (st : Stair) :
    t.holdCommand st = s.holdCommand st := by
  obtain ⟨-, hp, hst, hj, hs, -⟩ := State.commandInputs_eq_iff.mp h
  simp only [State.holdCommand, hp, hst, hj, hs]

/-! ## The two halves of the invariant -/

/-- No security override stands before the entry to JOINING. -/
def State.overridesEntered (s : State) : Prop :=
  ∀ st : Stair, ∀ l ∈ s.lfc.leaves[st], l.security ≠ .none → s.entered = true

/-- Security overrides stand only where R121 leaves them. -/
def State.overridesAllowed (s : State) : Prop :=
  ∀ st : Stair, ∀ l ∈ s.lfc.leaves[st], l.security ≠ .none →
    s.entered = true ∧ s.rgu.phase = .normal ∧ s.sau.status[st] = .inService

/-- Every leaf has the commands of R114 and R115. -/
def State.commandsFollow (s : State) : Prop :=
  ∀ st : Stair, ∀ l ∈ s.lfc.leaves[st], l.lock = s.lockCommand st l.security ∧ l.hold = s.holdCommand st

theorem State.leavesAgree_iff {s : State} :
    s.leavesAgree ↔ s.overridesAllowed ∧ (s.entered = true → s.commandsFollow) := by
  constructor
  · intro h
    refine ⟨fun st l hl hv => ?_, fun he st l hl => ?_⟩
    · cases he : s.entered with
      | false => exact absurd ((h st l hl).2 he) hv
      | true => exact ⟨rfl, ((h st l hl).1 he).2.2 hv⟩
    · obtain ⟨hlock, hhold, -⟩ := (h st l hl).1 he
      exact ⟨hlock, hhold⟩
  · rintro ⟨ho, hc⟩ st l hl
    refine ⟨fun he => ⟨(hc he st l hl).1, (hc he st l hl).2, fun hv => (ho st l hl hv).2⟩, fun he => ?_⟩
    by_contra hv
    exact absurd (ho st l hl hv).1 (by simp [he])

theorem State.leavesAgree.overrides {s : State} (h : s.leavesAgree) : s.overridesAllowed :=
  (State.leavesAgree_iff.mp h).1

theorem State.overridesAllowed.entered {s : State} (h : s.overridesAllowed) : s.overridesEntered :=
  fun st l hl hv => (h st l hl hv).1

theorem State.leavesAgree.entered {s : State} (h : s.leavesAgree) : s.overridesEntered := h.overrides.entered

theorem State.overridesEntered_of_entered {s : State} (h : s.entered = true) : s.overridesEntered :=
  fun _ _ _ _ => h

/-- Before the entry to JOINING the invariant says that no override stands. -/
theorem State.leavesAgree_of_starting {s : State} (he : s.entered = false)
    (h : ∀ st : Stair, ∀ l ∈ s.lfc.leaves[st], l.security = .none) : s.leavesAgree :=
  fun st l hl => ⟨fun ht => absurd ht (by simp [he]), fun _ => h st l hl⟩

theorem entered_congr {s t : State} (e : t.leafInputs = s.leafInputs) : t.entered = s.entered := by
  simp only [State.leafInputs_eq_iff, State.commandInputs_eq_iff] at e
  simp [State.entered, e]

theorem State.overridesEntered.of_leaves {s t : State} (h : s.overridesEntered) (hl : t.lfc.leaves = s.lfc.leaves)
    (hj : t.ssu.join = s.ssu.join) : t.overridesEntered := by
  intro st l hm hv
  rw [hl] at hm
  simpa [State.entered, hj] using h st l hm hv

theorem State.overridesAllowed.congr {s t : State} (h : s.overridesAllowed) (e : t.leafInputs = s.leafInputs) :
    t.overridesAllowed := by
  have he := entered_congr e
  obtain ⟨hl, hc⟩ := State.leafInputs_eq_iff.mp e
  obtain ⟨-, hp, hst, -⟩ := State.commandInputs_eq_iff.mp hc
  simpa only [State.overridesAllowed, hl, he, hp, hst] using h

/-- What changes neither the leaf records nor what their commands are read from keeps the invariant. -/
theorem State.leavesAgree.congr {s t : State} (h : s.leavesAgree) (e : t.leafInputs = s.leafInputs) :
    t.leavesAgree := by
  rw [State.leavesAgree_iff] at h ⊢
  refine ⟨h.1.congr e, fun he st l hl => ?_⟩
  obtain ⟨hleaves, hin⟩ := State.leafInputs_eq_iff.mp e
  rw [hleaves] at hl
  rw [lockCommand_congr hin, holdCommand_congr hin]
  exact h.2 (by rwa [← entered_congr e]) st l hl

theorem ite_leavesAgree {c : Prop} [Decidable c] {s t : State} (hs : s.leavesAgree) (ht : t.leavesAgree) :
    (if c then s else t).leavesAgree := by
  split
  · exact hs
  · exact ht

/-! ## Leaf records changed -/

/-- What a leaf is told to do, and its security override. -/
def LeafRecord.orders (l : LeafRecord) : LockCommand × HoldCommand × Security := (l.lock, l.hold, l.security)

@[simp] theorem superviseLock_orders (now : Time) (l : LeafRecord) : (l.superviseLock now).orders = l.orders := by
  unfold LeafRecord.superviseLock
  (repeat' split) <;> rfl

@[simp] theorem superviseClosing_orders (now : Time) (l before : LeafRecord) :
    (l.superviseClosing now before).orders = l.orders := by
  unfold LeafRecord.superviseClosing
  (repeat' split) <;> rfl

/-- The leaf records after one has been put in place. -/
theorem setLeaf_leaf (s : State) (st st' : Stair) (l : LeafRecord) :
    (s.setLeaf st l).lfc.leaves[st'] = if st' = st then some l else s.lfc.leaves[st'] := by
  by_cases h : st' = st
  · simp [h]
  · have : st.val ≠ st'.val := fun e => h (Fin.ext e.symm)
    simp [h, this]

/-- A changed leaf has the orders that the change gives it; the other leaves have theirs. -/
theorem mem_changeLeaf {st st' : Stair} {f : LeafRecord → LeafRecord} {s : State} {l' : LeafRecord}
    (h : l' ∈ (changeLeaf st f s).lfc.leaves[st']) :
    ∃ l ∈ s.lfc.leaves[st'], l'.orders = if st' = st then (f l).orders else l.orders := by
  unfold changeLeaf at h
  split at h
  · next hnone =>
    refine ⟨l', h, ?_⟩
    split
    · next e => rw [e, hnone] at h; cases h
    · rfl
  · next before hb =>
    have hl : l' ∈
        (s.setLeaf st (((f before).superviseLock s.now).superviseClosing s.now before)).lfc.leaves[st'] := by
      dsimp only at h
      split at h <;> split at h <;> simpa using h
    rw [setLeaf_leaf] at hl
    by_cases e : st' = st
    · subst e
      rw [if_pos rfl] at hl
      cases hl
      exact ⟨before, hb, by simp⟩
    · rw [if_neg e] at hl
      exact ⟨l', hl, by rw [if_neg e]⟩

/-- A set security override stands on its leaf; the other leaves keep theirs. -/
theorem mem_setSecurity {st st' : Stair} {v : Security} {s : State} {l' : LeafRecord}
    (h : l' ∈ (setSecurity st v s).lfc.leaves[st']) :
    ∃ l ∈ s.lfc.leaves[st'], l'.security = if st' = st then v else l.security := by
  unfold setSecurity at h
  split at h
  · next hnone =>
    refine ⟨l', h, ?_⟩
    split
    · next e => rw [e, hnone] at h; cases h
    · rfl
  · next l hl =>
    simp only [keep_frame] at h
    rw [setLeaf_leaf] at h
    by_cases e : st' = st
    · subst e
      rw [if_pos rfl] at h
      cases h
      exact ⟨l, hl, by simp⟩
    · rw [if_neg e] at h
      exact ⟨l', h, by rw [if_neg e]⟩

/-- A fold over the stairs whose step gives a view of its own leaf a new value, once and for all, and keeps the other
leaves and what the commands are read from, gives every leaf of the list its new value. -/
theorem mem_foldl_leaves {α : Type} {s₀ : State} (view : LeafRecord → α) (new : Stair → α → α)
    (step : State → Stair → State) (hin : ∀ s st, (step s st).commandInputs = s.commandInputs)
    (hidem : ∀ st a, new st (new st a) = new st a)
    (hstep : ∀ s st st' l', s.commandInputs = s₀.commandInputs → l' ∈ (step s st).lfc.leaves[(st' : Stair)] →
      ∃ l ∈ s.lfc.leaves[st'], view l' = if st' = st then new st' (view l) else view l)
    (stairs : List Stair) {s : State} (hs : s.commandInputs = s₀.commandInputs) {st' : Stair} {l' : LeafRecord}
    (h : l' ∈ (stairs.foldl step s).lfc.leaves[st']) :
    ∃ l ∈ s.lfc.leaves[st'], view l' = if st' ∈ stairs then new st' (view l) else view l := by
  induction stairs generalizing s with
  | nil => exact ⟨l', h, by simp⟩
  | cons st stairs ih =>
    obtain ⟨l₁, hl₁, e₁⟩ := ih ((hin s st).trans hs) h
    obtain ⟨l, hl, e⟩ := hstep s st st' l₁ hs hl₁
    refine ⟨l, hl, ?_⟩
    rw [e₁, e]
    by_cases h₁ : st' = st <;> by_cases h₂ : st' ∈ stairs <;> simp [h₁, h₂, hidem]

/-- Computed again, every leaf has the commands of R114 and R115, and its override as it was. -/
theorem mem_computeLeaves {st : Stair} {s : State} {l' : LeafRecord} (h : l' ∈ (computeLeaves s).lfc.leaves[st]) :
    ∃ l ∈ s.lfc.leaves[st], l'.orders = (s.lockCommand st l.security, s.holdCommand st, l.security) := by
  obtain ⟨l, hl, e⟩ := mem_foldl_leaves LeafRecord.orders
    (fun st o => (s.lockCommand st o.2.2, s.holdCommand st, o.2.2)) _ (by simp) (by simp)
    (fun t st st' l' ht hl' => by
      obtain ⟨l, hl, e⟩ := mem_changeLeaf hl'
      refine ⟨l, hl, e.trans ?_⟩
      split
      · next hst => subst hst; simp [LeafRecord.orders, lockCommand_congr ht, holdCommand_congr ht]
      · rfl) (List.finRange 4) rfl h
  exact ⟨l, hl, by rw [e, if_pos (List.mem_finRange st)]; rfl⟩

/-- Examined, a leaf keeps its override only in NORMAL, with its stair IN_SERVICE. -/
theorem mem_examineSecurity {st : Stair} {s : State} {l' : LeafRecord} (h : l' ∈ (examineSecurity s).lfc.leaves[st]) :
    ∃ l ∈ s.lfc.leaves[st], l'.security =
      if s.rgu.phase ≠ .normal ∨ s.sau.status[st] = .smokeLogged then .none else l.security := by
  obtain ⟨l, hl, e⟩ := mem_foldl_leaves LeafRecord.security
    (fun st v => if s.rgu.phase ≠ .normal ∨ s.sau.status[st] = .smokeLogged then .none else v) _
    (by intro t st; split <;> simp) (by intro st a; split <;> rfl)
    (fun t st st' l' ht hl' => by
      obtain ⟨-, hp, hstatus, -⟩ := State.commandInputs_eq_iff.mp ht
      rw [hp, hstatus] at hl'
      split at hl'
      · next hc =>
        obtain ⟨l, hl, e⟩ := mem_setSecurity hl'
        refine ⟨l, hl, e.trans ?_⟩
        split
        · next hst => subst hst; rw [if_pos hc]
        · rfl
      · next hc =>
        refine ⟨l', hl', ?_⟩
        split
        · next hst => subst hst; rw [if_neg hc]
        · rfl) (List.finRange 4) rfl h
  exact ⟨l, hl, by simpa using e⟩

/-! ## What the operations of the Leaf Controller establish -/

/-- Commands computed again agree, where the overrides are allowed (R116). -/
theorem computeLeaves_leavesAgree {s : State} (h : s.overridesAllowed) : (computeLeaves s).leavesAgree := by
  have hin : (computeLeaves s).commandInputs = s.commandInputs := by simp
  refine State.leavesAgree_iff.mpr ⟨fun st l' hl' hv => ?_, fun _ st l' hl' => ?_⟩
  · obtain ⟨l, hl, e⟩ := mem_computeLeaves hl'
    simp only [LeafRecord.orders, Prod.mk.injEq] at e
    simpa [State.entered] using h st l hl (e.2.2 ▸ hv)
  · obtain ⟨l, hl, e⟩ := mem_computeLeaves hl'
    obtain ⟨hlock, hhold, hsec⟩ : l'.lock = _ ∧ l'.hold = _ ∧ l'.security = _ := by
      simpa only [LeafRecord.orders, Prod.mk.injEq] using e
    rw [lockCommand_congr hin, holdCommand_congr hin, hsec]
    exact ⟨hlock, hhold⟩

/-- Examined, the overrides are allowed (R121). -/
theorem examineSecurity_overridesAllowed {s : State} (h : s.overridesEntered) :
    (examineSecurity s).overridesAllowed := by
  intro st l' hl' hv
  obtain ⟨l, hl, e⟩ := mem_examineSecurity hl'
  split at e
  · exact absurd e hv
  · next hc =>
    obtain ⟨hp, hst⟩ := not_or.mp hc
    refine ⟨by simpa [State.entered] using h st l hl (e ▸ hv), by simpa using hp, ?_⟩
    simp only [examineSecurity_frame]
    cases hs : s.sau.status[st] with
    | inService => rfl
    | smokeLogged => exact absurd hs hst

/-- After a change of phase, stair status, supply or join state the leaves agree again (R116, R121). -/
theorem leavesFollow_leavesAgree {s : State} (h : s.overridesEntered) : (leavesFollow s).leavesAgree := by
  unfold leavesFollow
  exact computeLeaves_leavesAgree (examineSecurity_overridesAllowed h)

/-- A change that gives a leaf no other orders keeps the invariant. -/
theorem changeLeaf_leavesAgree {st : Stair} {f : LeafRecord → LeafRecord} {s : State} (h : s.leavesAgree)
    (hf : ∀ l, (f l).orders = l.orders) : (changeLeaf st f s).leavesAgree := by
  have hin : (changeLeaf st f s).commandInputs = s.commandInputs := by simp
  intro st' l' hl'
  obtain ⟨l, hl, e⟩ := mem_changeLeaf hl'
  obtain ⟨hlock, hhold, hsec⟩ : l'.lock = l.lock ∧ l'.hold = l.hold ∧ l'.security = l.security := by
    rw [hf, ite_self] at e
    simpa only [LeafRecord.orders, Prod.mk.injEq] using e
  rw [hlock, hhold, hsec, lockCommand_congr hin, holdCommand_congr hin]
  simpa [State.entered] using h st' l hl

/-- A leaf record put in place with the orders of the one before it keeps the invariant. -/
theorem setLeaf_leavesAgree {st : Stair} {s : State} {l k : LeafRecord} (h : s.leavesAgree)
    (hl : s.lfc.leaves[st] = some l) (hk : k.orders = l.orders) : (s.setLeaf st k).leavesAgree := by
  have hin : (s.setLeaf st k).commandInputs = s.commandInputs := by simp
  obtain ⟨hlock, hhold, hsec⟩ : k.lock = l.lock ∧ k.hold = l.hold ∧ k.security = l.security := by
    simpa only [LeafRecord.orders, Prod.mk.injEq] using hk
  intro st' l' hl'
  rw [lockCommand_congr hin, holdCommand_congr hin]
  rw [setLeaf_leaf] at hl'
  split at hl'
  · next e =>
    subst e
    cases hl'
    rw [hlock, hhold, hsec]
    simpa [State.entered] using h st' l hl
  · simpa [State.entered] using h st' l' hl'

theorem feedbackTimeout_leavesAgree {st : Stair} {s : State} (h : s.leavesAgree) :
    (feedbackTimeout st s).leavesAgree := by
  unfold feedbackTimeout
  split
  · exact h
  · next l hl =>
    split
    · exact (setLeaf_leavesAgree (k := { l with feedback := some .notFollowing, feedbackFrom := none }) h hl rfl).congr
        (by simp)
    · exact h

theorem closingTimeout_leavesAgree {st : Stair} {s : State} (h : s.leavesAgree) :
    (closingTimeout st s).leavesAgree := by
  unfold closingTimeout
  split
  · exact h
  · next l hl =>
    split
    · exact (setLeaf_leavesAgree (k := { l with closingFrom := none }) h hl rfl).congr (by simp)
    · exact h

theorem unlockHeard_leavesAgree {s : State} (h : s.leavesAgree) : (unlockHeard s).leavesAgree := by
  unfold unlockHeard
  split
  · exact h
  · refine computeLeaves_leavesAgree fun st l hl hv => ?_
    simpa [State.entered] using h.overrides st l (by simpa using hl) hv

theorem leavesAtEpoch_leavesAgree {s : State} (h : s.overridesEntered) : (leavesAtEpoch s).leavesAgree := by
  unfold leavesAtEpoch
  exact leavesFollow_leavesAgree (h.of_leaves (by simp) (by simp))

/-- A security request keeps the invariant: R120 refuses it wherever an override could not stand. -/
theorem securityRequest_leavesAgree {lock : Bool} {st : Stair} {s : State} (he : s.entered = true) (h : s.leavesAgree) :
    (securityRequest lock st s).1.leavesAgree := by
  unfold securityRequest
  split
  · exact h.congr (by simp)
  · exact h
  · next hr =>
    refine computeLeaves_leavesAgree fun st' l' hl' hv => ?_
    obtain ⟨l, hl, e⟩ := mem_setSecurity hl'
    suffices s.rgu.phase = .normal ∧ s.sau.status[st'] = .inService by simpa [State.entered, this] using he
    split at e
    · next hst =>
      subst hst
      unfold State.securityRefused at hr
      split at hr
      · cases hr
      · split at hr
        · cases hr
        · next hc =>
          obtain ⟨-, hp, hlog, -⟩ : _ ∧ s.rgu.phase = .normal ∧ s.sau.status[st'] ≠ .smokeLogged ∧ _ := by
            simpa only [not_or, not_not] using hc
          refine ⟨hp, ?_⟩
          cases hs : s.sau.status[st'] with
          | inService => rfl
          | smokeLogged => exact absurd hs hlog
    · exact (h.overrides st' l hl (e ▸ hv)).2

end Sys2Proof.Machine
end

section
/-! SUPPORT. Every command keeps the commands of the leaves as R114 and R115 give them, block by block. -/

namespace Sys2Proof.Machine

/-! ## The Regime Unit: the notice of a phase (R79) -/

/-- The notice of a phase makes the leaves agree; where there is none, they must agree already (R79, R116). -/
theorem phaseNotice_leavesAgree {before : Phase} {s : State} (ho : s.overridesEntered)
    (h : s.rgu.phase = before → s.leavesAgree) : (phaseNotice before s).leavesAgree := by
  unfold phaseNotice
  split
  · next hp => exact h hp
  · exact (leavesFollow_leavesAgree ho).congr (by simp)

theorem evaluatePhase_overridesEntered {s : State} (h : s.overridesEntered) : (evaluatePhase s).overridesEntered :=
  h.of_leaves (by simp) (by simp)

/-- An evaluation that changes the phase tells the Leaf Controller; any other leaves what it reads as it was (R74,
R79). -/
theorem evaluate_leavesAgree {s : State} (h : s.leavesAgree) : (evaluate s).leavesAgree :=
  phaseNotice_leavesAgree (evaluatePhase_overridesEntered h.entered) fun hp => h.congr (by simp [hp])

/-- An evaluation keeps the overrides allowed, whatever the commands of the leaves are. -/
theorem evaluate_overridesAllowed {s : State} (h : s.overridesAllowed) : (evaluate s).overridesAllowed := by
  unfold evaluate phaseNotice
  split
  · next hp => exact h.congr (by simp [hp])
  · exact (leavesFollow_leavesAgree (evaluatePhase_overridesEntered h.entered)).overrides.congr (by simp)

theorem claimGone_leavesAgree {s : State} (h : s.leavesAgree) : (claimGone s).leavesAgree := by
  unfold claimGone
  split
  · next hc =>
    refine phaseNotice_leavesAgree (evaluatePhase_overridesEntered h.entered) fun hp => ?_
    exact h.congr (by simp [hp, hc])
  · exact evaluate_leavesAgree h

theorem ownSetChanged_leavesAgree {s : State} (h : s.leavesAgree) : (ownSetChanged s).leavesAgree := by
  unfold ownSetChanged
  exact evaluate_leavesAgree (h.congr (by simp))

/-! ## The Point Unit: passing values and readings (R54, R74, R113, R211) -/

theorem deriveSupply_leavesAgree {s : State} (h : s.leavesAgree) : (deriveSupply s).leavesAgree := by
  unfold deriveSupply
  dsimp only
  split
  · exact h
  · have ho : (keep (supplyOf s.ssu.mainsFailed s.ssu.batteryLow != .mains) (.internal .supply) .supply
        (s.setSsu fun u => { u with supply := supplyOf s.ssu.mainsFailed s.ssu.batteryLow })).overridesEntered :=
      h.entered.of_leaves (by simp) (by simp)
    exact (leavesFollow_leavesAgree ho).congr (by simp)

theorem passCar_leafInputs {pass : Bank → Car → Bool → State → State} (b : Bank) (c : Car) (role : PointType)
    (held : CarRecord → Bool) (s : State) (hp : ∀ b c v, (pass b c v s).leafInputs = s.leafInputs) :
    (passCar b c role held pass s).leafInputs = s.leafInputs := by
  unfold passCar
  split
  · split
    · exact hp ..
    · rfl
  · rfl

/-- A passed value gives no leaf other orders, but through the supply state (R113, R211). -/
theorem passPoint_leavesAgree {p : Point} {s : State} (h : s.leavesAgree) : (passPoint p s).leavesAgree := by
  unfold passPoint
  dsimp only
  split
  case h_1 => exact changeLeaf_leavesAgree h fun _ => rfl
  case h_2 => exact changeLeaf_leavesAgree h fun _ => rfl
  case h_3 | h_4 | h_5 => exact h.congr (passCar_leafInputs _ _ _ _ _ (by simp))
  case h_6 | h_7 => exact deriveSupply_leavesAgree (h.congr (by simp))
  all_goals exact h.congr (by simp)

theorem pointFollows_leavesAgree {p : Point} {own : List Entry} {s : State} (h : s.leavesAgree) :
    (pointFollows p own s).leavesAgree := by
  have hpass : (reportBanks (passPoint p (followLogical p s))).leavesAgree :=
    (passPoint_leavesAgree (p := p) (h.congr (t := followLogical p s) (by simp))).congr (by simp)
  unfold pointFollows
  dsimp only
  split
  · exact hpass
  · exact ownSetChanged_leavesAgree hpass

theorem takeReading_leavesAgree {p : Point} {r : Sensed} {s : State} (h : s.leavesAgree) :
    (takeReading p r s).leavesAgree := by
  unfold takeReading
  refine pointFollows_leavesAgree (h.congr ?_)
  (repeat' split) <;> simp

theorem readingTaken_leavesAgree {p : Point} {r : Sensed} {s : State} (h : s.leavesAgree) :
    (readingTaken p r s).leavesAgree := by
  exact ite_leavesAgree (takeReading_leavesAgree h) h

theorem isolatePoint_leavesAgree {p : Point} {s : State} (h : s.leavesAgree) : (isolatePoint p s).1.leavesAgree := by
  unfold isolatePoint
  split
  · exact h
  · dsimp only
    exact pointFollows_leavesAgree (h.congr (by simp))

theorem restorePoint_leavesAgree {p : Point} {s : State} (h : s.leavesAgree) : (restorePoint p s).1.leavesAgree := by
  unfold restorePoint
  split
  · exact h
  · dsimp only
    exact pointFollows_leavesAgree (h.congr (by simp))

/-- An event of a decoder touches nothing that the leaves follow, but through the own set. -/
theorem decoderEvent_leavesAgree {f : State → State} {s : State} (h : s.leavesAgree)
    (hf : (f s).leafInputs = s.leafInputs) : (decoderEvent f s).leavesAgree := by
  unfold decoderEvent
  split
  · exact h.congr hf
  · exact ownSetChanged_leavesAgree (h.congr hf)

theorem drainTick_leavesAgree {s : State} (h : s.leavesAgree) : (drainTick s).leavesAgree := by
  unfold drainTick
  split
  · split
    · dsimp only
      split
      · exact h.congr (by simp)
      · exact evaluate_leavesAgree (h.congr (by simp))
    · exact h
  · exact h

/-! ## The Bulletin Dispatcher: adoption and dispatch (R22, R88, R91, R118, R210) -/

/-- Whatever an adoption changes, the Leaf Controller takes it at step 10 (R88). -/
theorem adoptPhase_leavesAgree {before : Phase} {s : State} (h : s.overridesEntered) :
    (adoptPhase before s).leavesAgree := by
  unfold adoptPhase
  dsimp only
  generalize hu : evaluatePhase _ = u
  have ho : u.overridesEntered := hu ▸ h.of_leaves (by simp) (by simp)
  exact (leavesAtEpoch_leavesAgree ho).congr (by split <;> simp)

theorem adopt_leavesAgree {epoch : Nat} {cause : Option StatusReport} {s : State} (h : s.leavesAgree) :
    (adopt epoch cause s).leavesAgree := by
  unfold adopt
  exact adoptPhase_leavesAgree (h.entered.of_leaves (by simp) (by simp))

theorem stairContent_leavesAgree {st : Stair} {status : StairStatus} {s : State} (h : s.leavesAgree) :
    (stairContent st status s).leavesAgree := by
  unfold stairContent
  dsimp only
  split
  · next hs => exact h.congr (by simp [hs])
  · exact leavesFollow_leavesAgree (h.entered.of_leaves (by simp) (by simp))

theorem commandHeard_leavesAgree {cmd : Command} {s : State} (h : s.leavesAgree) :
    (commandHeard cmd s).leavesAgree := by
  cases cmd with
  | unlockStairs => exact unlockHeard_leavesAgree h
  | silenceAlert => exact h.congr (by simp [commandHeard])
  | manualRecall b => exact h.congr (by simp [commandHeard])
  | cancelRecall b => exact h.congr (by simp [commandHeard])

theorem handOn_leavesAgree (c : Content) (sender : Sender) (sentHere gather : Bool) {s : State} (h : s.leavesAgree) :
    (handOn c sender sentHere gather s).leavesAgree := by
  cases c with
  | stair _ st status => exact stairContent_leavesAgree h
  | command cmd _ => exact commandHeard_leavesAgree h
  | condition _ l => exact ite_leavesAgree h (h.congr (by simp))
  | status r => exact ite_leavesAgree h (h.congr (by simp))
  | release r => exact h.congr (by simp [handOn])
  | pageStart scope => exact h.congr (by simp [handOn])
  | pageStop => exact h.congr (by simp [handOn])
  | regimeReset _ _ | lift _ | test _ => exact h

/-- The end of JOINING tells the Leaf Controller, whatever the view that was taken (R210). -/
theorem endJoining_leavesAgree (s : State) : (endJoining s).leavesAgree := by
  unfold endJoining
  exact leavesFollow_leavesAgree (State.overridesEntered_of_entered (by simp [State.entered]))

theorem joinFrom_leavesAgree (c : Content) (sentHere adopted : Bool) {s : State} (h : s.leavesAgree) :
    (joinFrom c sentHere adopted s).leavesAgree := by
  unfold joinFrom
  split
  · split
    · exact endJoining_leavesAgree _
    · exact evaluate_leavesAgree h
  · exact evaluate_leavesAgree h

theorem handle_leavesAgree {c : Content} {sender : Sender} {sentHere adopted : Bool} {s : State} (h : s.leavesAgree) :
    (handle c sender sentHere adopted s).leavesAgree := by
  have hon : (examineFloors (noteContent c sender sentHere (handOn c sender sentHere adopted s))).leavesAgree :=
    (handOn_leavesAgree c sender sentHere adopted h).congr (by simp)
  have hjoin := joinFrom_leavesAgree c sentHere adopted hon
  exact ite_leavesAgree (hjoin.congr (by simp)) hjoin

theorem dispatchContent_leavesAgree {c : Content} {sender : Sender} {sentHere : Bool} {s : State} (h : s.leavesAgree) :
    (dispatchContent c sender sentHere s).leavesAgree := by
  unfold dispatchContent
  split
  case h_1 => exact evaluate_leavesAgree (h.congr (by split <;> simp))
  case h_2 => exact evaluate_leavesAgree h
  case h_3 => exact handle_leavesAgree h
  case h_4 => exact handle_leavesAgree (adopt_leavesAgree h)

theorem dispatch_leavesAgree {b : Heard} {sentHere : Bool} {s : State} (h : s.leavesAgree) :
    (dispatch b sentHere s).leavesAgree := by
  unfold dispatch
  dsimp only
  split
  · exact evaluate_leavesAgree (h.congr (by simp))
  · exact dispatchContent_leavesAgree (h.congr (by simp))

/-! ## The Line Interface (chapter 1) -/

theorem gapRead_leafInputs (s : State) : (gapRead s).leafInputs = s.leafInputs := by
  unfold gapRead
  split <;> simp

theorem startBitRead_leafInputs (s : State) : (startBitRead s).leafInputs = s.leafInputs := by
  unfold startBitRead
  split <;> simp

theorem transmitStart_leafInputs (s : State) : (transmitStart s).leafInputs = s.leafInputs := by
  unfold transmitStart
  split <;> simp

theorem breakEnds_leafInputs (s : State) : (breakEnds s).leafInputs = s.leafInputs := by
  unfold breakEnds
  split <;> simp

theorem holdReleased_leafInputs (s : State) : (holdReleased s).leafInputs = s.leafInputs := by
  unfold holdReleased
  split <;> simp

theorem countFailure_leafInputs (s : State) : (countFailure s).leafInputs = s.leafInputs := by
  unfold countFailure
  dsimp only
  split <;> simp

theorem testVerdict_leafInputs (good : Bool) (s : State) : (testVerdict good s).leafInputs = s.leafInputs := by
  unfold testVerdict
  split <;> simp

theorem reportSent_leafInputs (c : Content) (pending : Option Content) (s : State) :
    (reportSent c pending s).leafInputs = s.leafInputs := by
  cases c <;> simp [reportSent]

theorem completeOwn_leafInputs (e : TxEntry) (s : State) : (completeOwn e s).leafInputs = s.leafInputs := by
  unfold completeOwn
  exact (reportSent_leafInputs ..).trans (by simp)

theorem noteDuplicate_leafInputs (b : Heard) (sentHere : Bool) (s : State) :
    (noteDuplicate b sentHere s).leafInputs = s.leafInputs := by
  unfold noteDuplicate
  split <;> simp

theorem refreshLine_leafInputs (s : State) : (refreshLine s).leafInputs = s.leafInputs := by
  unfold refreshLine
  dsimp only
  (repeat' split) <;> simp

theorem reportGone_leavesAgree {c : Content} {s : State} (h : s.leavesAgree) : (reportGone c s).leavesAgree := by
  unfold reportGone
  split
  · next r =>
    have hr : (releaseGone r s).1.leavesAgree := h.congr (by simp)
    split
    · next e => rw [e] at hr; exact claimGone_leavesAgree hr
    · next e => rw [e] at hr; exact evaluate_leavesAgree hr
  · exact h.congr (by simp)
  · exact h.congr (by simp)
  · exact h

theorem reportWon_leavesAgree {c : Content} {s : State} (h : s.leavesAgree) : (reportWon c s).leavesAgree := by
  unfold reportWon
  split
  · exact evaluate_leavesAgree (h.congr (by simp))
  · exact h

theorem arbitrationLost_leavesAgree {s : State} (h : s.leavesAgree) : (arbitrationLost s).leavesAgree := by
  unfold arbitrationLost
  split
  · dsimp only
    split
    · exact reportGone_leavesAgree (h.congr (by simp))
    · exact h.congr (by simp)
  · exact h

theorem arbitrationWon_leavesAgree {s : State} (h : s.leavesAgree) : (arbitrationWon s).leavesAgree := by
  unfold arbitrationWon
  split
  · dsimp only
    split
    · exact reportWon_leavesAgree (h.congr (by simp))
    · exact h.congr (by simp)
  · exact h

theorem bitError_leavesAgree {s : State} (h : s.leavesAgree) : (bitError s).leavesAgree := by
  unfold bitError
  split
  · split
    · dsimp only
      split
      · exact reportGone_leavesAgree (h.congr (by split <;> simp [faultTransmitter]))
      · exact h.congr (by split <;> simp [faultTransmitter])
    · exact h
  · exact h

theorem goodBulletin_leavesAgree {b : Heard} {sentHere : Bool} {s : State} (h : s.leavesAgree) :
    (goodBulletin b sentHere s).leavesAgree := by
  have hn := h.congr ((noteDuplicate_leafInputs b sentHere
    (if sentHere then s else s.setLif fun l => { l with held := false })).trans (by split <;> simp))
  exact ite_leavesAgree (dispatch_leavesAgree hn) hn

theorem bulletinComplete_leavesAgree {bytes : List Byte} {s : State} (h : s.leavesAgree) :
    (bulletinComplete bytes s).leavesAgree := by
  have hown : ∀ (e : TxEntry) (good : Bool) (t : State), t.leafInputs = s.leafInputs →
      (if e.content.isTest then testVerdict good (completeOwn e t) else completeOwn e t).leafInputs = s.leafInputs := by
    intro e good t ht
    split
    · exact (testVerdict_leafInputs ..).trans ((completeOwn_leafInputs ..).trans ht)
    · exact (completeOwn_leafInputs ..).trans ht
  unfold bulletinComplete
  dsimp only
  cases judge bytes with
  | some b =>
    refine goodBulletin_leavesAgree (h.congr ?_)
    split
    · exact hown _ _ _ (by simp)
    · simp
  | none =>
    suffices hu : (countFailure _).leafInputs = s.leafInputs from
      ite_leavesAgree (evaluate_leavesAgree (h.congr hu)) (h.congr hu)
    refine (countFailure_leafInputs _).trans ?_
    split
    · exact hown _ _ _ (by simp)
    · simp

theorem bulletinEnds_leavesAgree {e : Ending} {s : State} (h : s.leavesAgree) : (bulletinEnds e s).leavesAgree := by
  unfold bulletinEnds
  split
  · cases e with
    | complete bytes => exact bulletinComplete_leavesAgree h
    | _ => exact h.congr ((countFailure_leafInputs _).trans (by simp))
  · exact h

theorem countExpiry_leavesAgree {s : State} (h : s.leavesAgree) : (countExpiry s).leavesAgree := by
  unfold countExpiry
  dsimp only
  split
  · exact endJoining_leavesAgree _
  · exact h.congr (by simp)

theorem refreshExpires_leavesAgree {s : State} (h : s.leavesAgree) : (refreshExpires s).leavesAgree := by
  unfold refreshExpires
  split
  · split
    · next t _ _ =>
      have hroster : ∀ u : State, (examineFloors (ageRoster u)).leafInputs = u.leafInputs := by simp
      have haged := h.congr ((hroster _).trans ((refreshLine_leafInputs
        (s.setBdr fun b => { b with refreshNext := some (t + seconds s.ssu.config.refresh) })).trans (by simp)))
      have hlast : ∀ u : State, u.leavesAgree → (offerStatus (examineRejected u)).leavesAgree :=
        fun u hu => hu.congr (by simp)
      exact countExpiry_leavesAgree (hlast _ (ite_leavesAgree (evaluate_leavesAgree haged) haged))
    · exact h
  · exact h

/-! ## The Start-up and Supply Unit (chapter 12) -/

/-- A station without leaf records agrees. -/
theorem State.leavesAgree_of_no_leaf {s : State} (h : ∀ st : Stair, s.lfc.leaves[st] = none) : s.leavesAgree := by
  intro st l hl
  rw [h st] at hl
  cases hl

theorem powerUp_leavesAgree (s : State) : (powerUp s).leavesAgree :=
  State.leavesAgree_of_no_leaf fun st => by simp [powerUp, State.reset, Lfc.reset]

theorem resetStation_leavesAgree (s : State) : (resetStation s).leavesAgree :=
  State.leavesAgree_of_no_leaf fun st => by simp [resetStation, State.reset, Lfc.reset]

theorem beginStart_leafInputs (straps : Fin 64) (s : State) : (beginStart straps s).leafInputs = s.leafInputs := by
  simp [beginStart]

theorem releaseReset_leavesAgree {straps : Fin 64} {s : State} (h : s.leavesAgree) :
    (releaseReset straps s).leavesAgree :=
  ite_leavesAgree h (h.congr (beginStart_leafInputs straps s))

/-- Through the start sequence no override stands (R206). -/
theorem State.leavesAgree.no_override {s : State} (h : s.leavesAgree) (he : s.entered = false) (st : Stair)
    (l : LeafRecord) (hl : l ∈ s.lfc.leaves[st]) : l.security = .none := (h st l hl).2 he

/-- The leaf records that a configuration gives hold no override (R112). -/
theorem takeConfig_leavesAgree {cfg : StationConfig} {delegation : Option (Vector (Option RawDelegation) 16)}
    {s : State} (he : s.entered = false) : (takeConfig cfg delegation s).leavesAgree := by
  have hleaf : ∀ st : Stair, (takeConfig cfg delegation s).lfc.leaves[st] =
      if hasLeaf cfg st then some .reset else none := by
    intro st
    unfold takeConfig
    (repeat' split) <;> simp_all
  refine State.leavesAgree_of_starting ?_ fun st l hl => ?_
  · rw [← he]
    unfold takeConfig
    dsimp only
    (repeat' split) <;> simp [State.entered]
  · rw [hleaf] at hl
    split at hl
    · cases hl; rfl
    · cases hl

theorem imageRead_leavesAgree {image : Option ConfigImage} {s : State} (hs : s.sequenced) (h : s.leavesAgree) :
    (imageRead image s).leavesAgree := by
  unfold imageRead
  split
  · next hi => exact takeConfig_leavesAgree (by rw [hs, hi]; rfl)
  · exact h

theorem makeOwnRecord_leafInputs (s : State) : (makeOwnRecord s).leafInputs = s.leafInputs := by
  unfold makeOwnRecord
  split <;> simp [State.setRecord]

/-- The entry to JOINING computes every leaf's commands, with no override set (R116, R206). -/
theorem enterJoining_leavesAgree {s : State} (h : ∀ st : Stair, ∀ l ∈ s.lfc.leaves[st], l.security = .none) :
    (enterJoining s).leavesAgree := by
  have hjoin : ∀ u : State, (eachBank offerLift (examineFloors u)).leafInputs = u.leafInputs := by
    simp [eachBank, List.finRange_succ]
  unfold enterJoining
  dsimp only
  generalize hu : eachBank offerLift _ = u
  have hleaves : u.lfc.leaves = s.lfc.leaves := by
    have := (hjoin _).trans ((makeOwnRecord_leafInputs (startTimers
      (s.setSsu fun u => { u with join := .joining, stage := .done, expiries := 0 }))))
    rw [hu, State.leafInputs_eq_iff] at this
    exact this.1
  have ho : u.overridesAllowed := by
    intro st l hl hv
    rw [hleaves] at hl
    exact absurd (h st l hl) hv
  exact (computeLeaves_leavesAgree ((evaluate_overridesAllowed ho).congr (t := deriveProgram (evaluate u))
    (by simp))).congr (by simp)

theorem tableRead_leavesAgree {image : PhraseImage} {s : State} (hs : s.sequenced) (h : s.leavesAgree) :
    (tableRead image s).leavesAgree := by
  unfold tableRead
  split
  · next hp =>
    dsimp only
    refine enterJoining_leavesAgree fun st l hl => h.no_override (by rw [hs, hp]; rfl) st l ?_
    split at hl <;> simpa using hl
  · exact h

/-! ## The Console Port (chapter 11) -/

theorem answered_leavesAgree {r : State × Answer} (h : r.1.leavesAgree) : (answered r).leavesAgree :=
  h.congr (by simp [answered])

theorem offerCommand_leafInputs (cmd : Command) (s : State) : (offerCommand cmd s).leafInputs = s.leafInputs := by
  unfold offerCommand
  have := offer_frame (.command cmd s.level) s
  (repeat' split) <;> simp_all

theorem offerReset_leafInputs (s : State) : (offerReset s).leafInputs = s.leafInputs := by
  unfold offerReset
  have := offer_frame (.regimeReset (s.rgu.epoch + 1) s.level) s
  (repeat' split) <;> simp_all

theorem offerTest_leafInputs (s : State) : (offerTest s).leafInputs = s.leafInputs := by
  unfold offerTest
  have := offer_frame (.test s.lif.testSequence) s
  dsimp only
  split <;> simp_all

theorem startPageAnswered_leafInputs (scope : PageScope) (s : State) :
    (startPageAnswered scope s).leafInputs = s.leafInputs := by
  unfold startPageAnswered
  have := startPageRequest_frame scope s
  split <;> simp_all

/-- A request carried out gives a leaf other orders through SECURITY_LOCK and SECURITY_FREE alone (R119). -/
theorem perform_leavesAgree {r : Request} {s : State} (he : s.entered = true) (h : s.leavesAgree) :
    (perform r s).leavesAgree := by
  cases r with
  | securityLock st => exact answered_leavesAgree (securityRequest_leavesAgree he h)
  | securityFree st => exact answered_leavesAgree (securityRequest_leavesAgree he h)
  | isolatePoint p => exact answered_leavesAgree (isolatePoint_leavesAgree h)
  | restorePoint p => exact answered_leavesAgree (restorePoint_leavesAgree h)
  | stopPage => exact answered_leavesAgree (h.congr (by simp))
  | testAnnounce => exact answered_leavesAgree (h.congr (by simp))
  | silenceAlert | unlockStairs | manualRecall _ | cancelRecall _ => exact h.congr (offerCommand_leafInputs _ s)
  | startPage scope => exact h.congr (startPageAnswered_leafInputs scope s)
  | resetRegime => exact h.congr (offerReset_leafInputs s)
  | forceCheckError => exact h.congr (offerTest_leafInputs s)
  | acknowledge => exact h.congr (by simp [perform, acknowledgeAll])
  | setBuzzerMask m => exact h.congr (by simp [perform, setMask])
  | restartStation => exact h.congr (by simp [perform, restartAnswered])
  | queryView _ _ | queryEvents _ | queryStairs | invoke _ => exact h.congr (by simp [perform])

theorem checkLevel_leavesAgree {required : Nat} {r : Request} {s : State} (he : s.entered = true) (h : s.leavesAgree) :
    (checkLevel required r s).leavesAgree :=
  ite_leavesAgree (perform_leavesAgree he h) (h.congr (by simp))

theorem check_leavesAgree {r : Request} {s : State} (he : s.entered = true) (h : s.leavesAgree) :
    (check r s).leavesAgree := by
  unfold check
  split
  · unfold checkInvoke
    split
    · exact h.congr (by simp)
    · split
      · exact h.congr (by simp)
      · exact checkLevel_leavesAgree he h
  · exact checkLevel_leavesAgree he h

theorem dropFrame_leafInputs (s : State) : (dropFrame s).leafInputs = s.leafInputs := by simp [dropFrame]

theorem takeRequest_leavesAgree {code : Byte} {params : List Byte} {s : State} (he : s.entered = true)
    (h : s.leavesAgree) : (takeRequest code params s).leavesAgree := by
  have hh : (takeInHand code s).leavesAgree := h.congr (by simp [takeInHand])
  unfold takeRequest
  split
  · exact h.congr (dropFrame_leafInputs s)
  · split
    · exact check_leavesAgree he hh
    · exact hh.congr (by simp)

theorem takeFrame_leavesAgree (code : Byte) (params : List Byte) {s : State} (he : s.entered = true)
    (h : s.leavesAgree) : (takeFrame code params s).leavesAgree := by
  unfold takeFrame receiveFrame
  split
  · exact takeRequest_leavesAgree he h
  · exact h.congr (dropFrame_leafInputs s)
  · exact h

theorem frameDiscarded_leafInputs (why : FrameFault) (s : State) :
    (frameDiscarded why s).leafInputs = s.leafInputs := by
  unfold frameDiscarded
  (repeat' split) <;> simp [dropFrame]

theorem answerSent_leavesAgree {straps : Fin 64} {s : State} (h : s.leavesAgree) :
    (answerSent straps s).leavesAgree := by
  unfold answerSent
  split
  · exact ite_leavesAgree h (ite_leavesAgree ((resetStation_leavesAgree s).congr (beginStart_leafInputs straps _))
      (h.congr (by simp)))
  · exact h

/-! ## Every command -/

theorem run_leavesAgree {dt : Nat} {f : State → State} {s t : State} (h : s.leavesAgree)
    (hf : (f (s.after dt)).leavesAgree) (he : run dt f s = .next t) : t.leavesAgree := by
  cases he
  exact ite_leavesAgree (hf.congr (by simp)) h

/-- What is done only once the station has entered JOINING may count on that (R206). -/
theorem runJoined_leavesAgree {dt : Nat} {f : State → State} {s t : State} (h : s.leavesAgree)
    (hf : ∀ s : State, s.entered = true → s.leavesAgree → (f s).leavesAgree) (he : runJoined dt f s = .next t) :
    t.leavesAgree := by
  refine run_leavesAgree h ?_ he
  split
  · next hj => exact hf _ hj h
  · exact h

/-- A command that touches nothing of what the leaves follow. -/
theorem runJoined_leavesAgree_of_leafInputs {dt : Nat} {f : State → State} {s t : State} (h : s.leavesAgree)
    (hf : ∀ s : State, (f s).leafInputs = s.leafInputs) (he : runJoined dt f s = .next t) : t.leavesAgree :=
  runJoined_leavesAgree h (fun s _ hs => hs.congr (hf s)) he

theorem exec_leavesAgree {i : Instr} {s t : State} (hs : s.sequenced) (h : s.leavesAgree) (he : exec i s = .next t) :
    t.leavesAgree := by
  cases i with
  | powerOn dt => cases he; exact powerUp_leavesAgree _
  | pinReset dt => cases he; exact resetStation_leavesAgree _
  | resetRelease dt straps => cases he; exact releaseReset_leavesAgree h
  | lampFlashToggle dt => cases he; exact h.congr (by unfold lampToggle; split <;> simp)
  | configImageRead dt image => exact run_leavesAgree h (imageRead_leavesAgree hs h) he
  | phraseTableLoad dt image => exact run_leavesAgree h (tableRead_leavesAgree hs h) he
  | receiverIdle dt => exact run_leavesAgree h (h.congr (gapRead_leafInputs _)) he
  | startBitRead dt => exact run_leavesAgree h (h.congr (startBitRead_leafInputs _)) he
  | bulletinEnd dt ending => exact run_leavesAgree h (bulletinEnds_leavesAgree h) he
  | buzzerPatternStep dt =>
    exact run_leavesAgree h (h.congr (by unfold patternStep; dsimp only; (repeat' split) <;> simp)) he
  | transmitStart dt => exact runJoined_leavesAgree_of_leafInputs h transmitStart_leafInputs he
  | errorBreakEnd dt => exact runJoined_leavesAgree_of_leafInputs h breakEnds_leafInputs he
  | holdGapRelease dt => exact runJoined_leavesAgree_of_leafInputs h holdReleased_leafInputs he
  | arbitrationLost dt => exact runJoined_leavesAgree h (fun _ _ => arbitrationLost_leavesAgree) he
  | arbitrationWon dt => exact runJoined_leavesAgree h (fun _ _ => arbitrationWon_leavesAgree) he
  | bitError dt => exact runJoined_leavesAgree h (fun _ _ => bitError_leavesAgree) he
  | refreshExpiry dt => exact runJoined_leavesAgree h (fun _ _ => refreshExpires_leavesAgree) he
  | drainTick dt => exact runJoined_leavesAgree h (fun _ _ => drainTick_leavesAgree) he
  | readingTaken dt p r => exact runJoined_leavesAgree h (fun _ _ => readingTaken_leavesAgree) he
  | supplyCutEnd dt g => exact runJoined_leavesAgree_of_leafInputs (f := cutEnds g) h (by simp) he
  | windowExpiry dt p => exact runJoined_leavesAgree_of_leafInputs (f := windowEnds p) h (by simp) he
  | digitClose dt p => exact runJoined_leavesAgree_of_leafInputs (f := digitCloses p) h (by simp) he
  | roundClose dt p => exact runJoined_leavesAgree h (fun _ _ hs => decoderEvent_leavesAgree hs (by simp)) he
  | continuousRing dt p => exact runJoined_leavesAgree h (fun _ _ hs => decoderEvent_leavesAgree hs (by simp)) he
  | lockFeedbackTimeout dt st => exact runJoined_leavesAgree h (fun _ _ => feedbackTimeout_leavesAgree) he
  | leafClosingTimeout dt st => exact runJoined_leavesAgree h (fun _ _ => closingTimeout_leavesAgree) he
  | recallTimerLimit dt b c => exact runJoined_leavesAgree_of_leafInputs (f := recallLimit b c) h (by simp) he
  | hatFlashToggle dt b => exact runJoined_leavesAgree_of_leafInputs (f := hatToggle b) h (by simp) he
  | gapExpiry dt => exact runJoined_leavesAgree_of_leafInputs (f := gapEnds) h (by simp) he
  | clipHeaderRead dt header => exact runJoined_leavesAgree_of_leafInputs (f := headerRead header) h (by simp) he
  | bufferBlockFilled dt data => exact runJoined_leavesAgree_of_leafInputs (f := blockFilled data) h (by simp) he
  | bufferBlockSounded dt => exact runJoined_leavesAgree_of_leafInputs (f := blockSounded) h (by simp) he
  | underrunTimeout dt => exact runJoined_leavesAgree_of_leafInputs (f := underrunEnds) h (by simp) he
  | clipEnd dt => exact runJoined_leavesAgree_of_leafInputs (f := clipEnds) h (by simp) he
  | toneEnd dt => exact runJoined_leavesAgree_of_leafInputs (f := toneEnds) h (by simp) he
  | pageExpiry dt => exact runJoined_leavesAgree_of_leafInputs (f := pageExpires) h (by simp) he
  | circuitSenseTaken dt n r => exact runJoined_leavesAgree_of_leafInputs (f := circuitTaken n r) h (by simp) he
  | portByteTimeout dt => exact runJoined_leavesAgree_of_leafInputs h dropFrame_leafInputs he
  | portFrameDiscarded dt why => exact runJoined_leavesAgree_of_leafInputs h (frameDiscarded_leafInputs why) he
  | requestCodeUnknown dt code params =>
    exact runJoined_leavesAgree h (fun _ hj hs => ite_leavesAgree hs (takeFrame_leavesAgree code params hj hs)) he
  | answerSent dt straps => exact runJoined_leavesAgree h (fun _ _ => answerSent_leavesAgree) he
  | queryView dt params | queryEvents dt params | queryStairs dt params | acknowledge dt params
  | silenceAlert dt params | unlockStairs dt params | securityLock dt params | securityFree dt params
  | startPage dt params | stopPage dt params | resetRegime dt params | isolatePoint dt params
  | restorePoint dt params | manualRecall dt params | cancelRecall dt params | testAnnounce dt params
  | setBuzzerMask dt params | forceCheckError dt params | restartStation dt params | invoke dt params =>
    exact runJoined_leavesAgree h (fun _ => takeFrame_leavesAgree _ params) he

theorem step_leavesAgree {s t : State} (hs : s.sequenced) (h : s.leavesAgree) (he : step s = .next t) :
    t.leavesAgree := by
  unfold step at he
  split at he
  · cases he; exact h
  · next i rest _ => exact exec_leavesAgree (s := { s with pending := rest }) hs h he

/-! ## The lists of R114 and R115 -/

theorem phase_ne_normal_iff (p : Phase) : p ≠ .normal ↔ p = .alert ∨ p = .claiming ∨ p = .evacuate := by
  cases p <;> simp

theorem supply_ne_mains_iff (v : Supply) : v ≠ .mains ↔ v = .battery ∨ v = .batteryLow := by
  cases v <;> simp

/-- The list of R114, line by line. -/
theorem lockCommand_lines (s : State) (st : Stair) (security : Security) :
    s.lockCommand st security =
      (if s.ssu.join = .joining then .released
      else if s.rgu.phase = .alert ∨ s.rgu.phase = .claiming ∨ s.rgu.phase = .evacuate then .released
      else if s.sau.status[st] = .smokeLogged then .released
      else if s.lfc.unlockAll = true then .released
      else if security = .lock then .locked
      else if security = .free then .released
      else if s.ssu.config.reentryFloor = true then .released
      else .locked) := by
  simp only [State.lockCommand, phase_ne_normal_iff]
  cases security <;> simp

/-- The list of R115, line by line. -/
theorem holdCommand_lines (s : State) (st : Stair) :
    s.holdCommand st =
      (if s.ssu.join = .joining then .dropped
      else if s.rgu.phase = .alert ∨ s.rgu.phase = .claiming ∨ s.rgu.phase = .evacuate then .dropped
      else if s.sau.status[st] = .smokeLogged then .dropped
      else if s.ssu.supply = .battery ∨ s.ssu.supply = .batteryLow then .dropped
      else .held) := by
  simp only [State.holdCommand, phase_ne_normal_iff, supply_ne_mains_iff]

/-- Settles O55: the commands are those of the lists, and each command of the table keeps them. -/
theorem leafCommandsFollow : Obligations.LeafCommandsFollow := by
  unfold Obligations.LeafCommandsFollow
  exact ⟨fun s st security => ⟨lockCommand_lines s st security, holdCommand_lines s st⟩,
    fun _ _ hs h he => step_leavesAgree hs h he⟩

end Sys2Proof.Machine
end

section
/-! SUPPORT. The rotors that a walk reaches and the rotors that an admission advances (R154, R159, R160). -/

namespace Sys2Proof.Machine

/-! ## The visited rotors of a walk (R152 to R156) -/

theorem mapError_eq_ok {ε ε' α : Type} {f : ε → ε'} {x : Except ε α} {a : α} : x.mapError f = .ok a ↔ x = .ok a := by
  cases x <;> simp [Except.mapError]

theorem Walk.append_rotors {w w' : Walk} {n : Nat} (h : w.append n = .ok w') : w'.rotors = w.rotors := by
  unfold Walk.append at h
  split at h
  · cases h; rfl
  · cases h

theorem Walk.stairClips_rotors {base : Nat} {stairs : List Stair} {w w' : Walk}
    (h : Walk.stairClips base stairs w = .ok w') : w'.rotors = w.rotors := by
  induction stairs generalizing w with
  | nil => cases h; rfl
  | cons st rest ih =>
    unfold Walk.stairClips at h
    split at h
    · split at h
      · next w₁ ha => exact (ih h).trans (Walk.append_rotors (w' := w₁) ha)
      · cases h
    · cases h

theorem Walk.visit_nodup {w : Walk} (r : Ref) (h : w.rotors.Nodup) : (w.visit r).rotors.Nodup := by
  unfold Walk.visit
  split
  · exact h
  · next hr => simpa [List.nodup_append, h] using fun a ha e => hr (by simpa [e] using ha)

/-- Following a reference lists no rotor twice (R152, R154). -/
def KeepsRotorsNodup (follow : Ref → Walk → Except WalkFailure Walk) : Prop :=
  ∀ (r : Ref) (w w' : Walk), follow r w = .ok w' → w.rotors.Nodup → w'.rotors.Nodup

theorem KeepsRotorsNodup.followAll {follow : Ref → Walk → Except WalkFailure Walk} (hf : KeepsRotorsNodup follow)
    {refs : List Ref} {w w' : Walk} (h : followAll follow refs w = .ok w') (hw : w.rotors.Nodup) :
    w'.rotors.Nodup := by
  induction refs generalizing w with
  | nil => cases h; exact hw
  | cons r rest ih =>
    unfold Machine.followAll at h
    split at h
    · next w₁ hr => exact ih h (hf r w w₁ hr hw)
    · cases h

/-- An entry of any kind lists no rotor twice, as long as the references followed from it do not (R153 to R156). -/
theorem KeepsRotorsNodup.takeEntry {v : WalkView} {e : Ref} {follow : Ref → Walk → Except WalkFailure Walk}
    (hf : KeepsRotorsNodup follow) {failed : WalkCause → WalkFailure} {w w' : Walk}
    (h : takeEntry v e follow failed w = .ok w') (hw : w.rotors.Nodup) : w'.rotors.Nodup := by
  unfold Machine.takeEntry at h
  split at h
  case h_1 => cases h
  case h_2 n _ => rw [Walk.append_rotors (mapError_eq_ok.mp h)]; exact hw
  case h_3 refs _ => exact hf.followAll h hw
  case h_4 r _ => exact hf r w w' h hw
  case h_5 refs position _ =>
    split at h
    · next r _ => exact hf r _ w' h (Walk.visit_nodup e hw)
    · cases h
  case h_6 base _ =>
    split at h
    · cases h
    · split at h
      · rw [Walk.append_rotors (mapError_eq_ok.mp h)]; exact hw
      · cases h
  case h_7 base _ =>
    split at h
    · exact hf 6 w w' h hw
    · rw [Walk.stairClips_rotors (mapError_eq_ok.mp h)]; exact hw

theorem walk_keepsRotorsNodup (v : WalkView) (deeper : Nat) : KeepsRotorsNodup (walk v deeper) := by
  induction deeper with
  | zero =>
    intro e w w' h hw
    have hstop : KeepsRotorsNodup fun _ _ => .error ⟨.depth, e, 6⟩ := fun _ _ _ h => by cases h
    exact hstop.takeEntry h hw
  | succ deeper ih => exact fun e w w' h hw => ih.takeEntry h hw

/-- A resolution lists each rotor that it reached once, however often it reached it (R154). -/
theorem resolve_rotors_nodup {v : WalkView} {roles : List Role} {w : Walk} (h : resolve v roles = .ok w) :
    w.rotors.Nodup :=
  (walk_keepsRotorsNodup v 5).followAll h List.nodup_nil

/-! ## The rotors advanced (R160) -/

theorem advanceRotors_getElem {rotors : List Ref} (hn : rotors.Nodup) (table : Vector Phrase 256) (e : Ref) :
    (advanceRotors rotors table)[e] = if e ∈ rotors then table[e].advance else table[e] := by
  induction rotors generalizing table with
  | nil => rfl
  | cons r rest ih =>
    obtain ⟨hr, hrest⟩ := List.nodup_cons.mp hn
    have hstep : (advanceRotors (r :: rest) table)[e] =
        if e ∈ rest then (upd table r Phrase.advance)[e].advance else (upd table r Phrase.advance)[e] :=
      ih hrest (upd table r Phrase.advance)
    rw [hstep]
    by_cases he : e = r
    · subst he; rw [if_neg hr, upd_self, if_pos List.mem_cons_self]
    · simp [he, upd_other table r e Phrase.advance (Ne.symm he)]

/-! ## The table after a request (R151, R158, R159) -/

theorem compose_table_of_unwalked {roles : List Role} {s : State} (h : s.answersUnwalked roles = true) :
    (compose roles s).1.acu.table = s.acu.table := by
  simp [compose, h]

theorem compose_table_of_failed {roles : List Role} {s : State} {f : WalkFailure}
    (h : resolve s.walkView roles = .error f) : (compose roles s).1.acu.table = s.acu.table := by
  unfold compose
  split <;> simp [h]

theorem compose_table_of_no_room {roles : List Role} {s : State} {w : Walk} (h : resolve s.walkView roles = .ok w)
    (hroom : s.pbu.room < w.clips.length) : (compose roles s).1.acu.table = s.acu.table := by
  unfold compose
  split <;> simp [h, Nat.not_le.mpr hroom]

theorem compose_table_of_admitted {roles : List Role} {s : State} {w : Walk} (hu : s.answersUnwalked roles = false)
    (h : resolve s.walkView roles = .ok w) (hroom : w.clips.length ≤ s.pbu.room) :
    (compose roles s).1.acu.table = advanceRotors w.rotors s.acu.table := by
  simp [compose, hu, h, hroom]

/-- Settles O49: a walk lists each rotor once, so that the admission advances it once. -/
theorem rotorsAdvanceOnce : Obligations.RotorsAdvanceOnce := by
  unfold Obligations.RotorsAdvanceOnce
  intro roles s
  refine ⟨fun w hu h hroom e => ?_, fun w h hroom => compose_table_of_no_room h hroom,
    fun f h => compose_table_of_failed h, compose_table_of_unwalked⟩
  rw [compose_table_of_admitted hu h hroom, advanceRotors_getElem (resolve_rotors_nodup h)]
  cases s.acu.table[e] <;> simp [Phrase.advance]

end Sys2Proof.Machine
end

section
/-! SUPPORT. The load of the phrase table, record by record (R147, R148). -/

namespace Sys2Proof.Machine

/-! ## The test of a record (R148) -/

/-- The records that R148 fails. -/
def phraseFails : RawPhrase → Bool
  | .unknown => true
  | .clip n => 1023 < n
  | .script refs => refs.length = 0 || 8 < refs.length
  | .rotor refs position => refs.length < 2 || 4 < refs.length || refs.length ≤ position
  | .floorSlot base => 1023 < base
  | .stairSlot base => 1023 < base
  | .link _ => false
  | .empty => false

/-- The entry that a record spells, whatever its ranges; a record of no kind spells none, and is EMPTY. -/
def phraseSpelt : RawPhrase → Phrase
  | .clip n => .clip n
  | .script refs => .script refs
  | .link ref => .link ref
  | .rotor refs position => .rotor refs position
  | .floorSlot base => .floorSlot base
  | .stairSlot base => .stairSlot base
  | .empty => .empty
  | .unknown => .empty

/-- A record that R148 fails gives no phrase, and every other gives the phrase that it spells. -/
theorem readPhrase_eq (r : RawPhrase) : readPhrase r = if phraseFails r then none else some (phraseSpelt r) := by
  cases r with
  | clip n | floorSlot n | stairSlot n =>
    have hfails : decide (1023 < n) = true ↔ ¬ n ≤ clipMost := by simp [clipMost]
    simp only [readPhrase, phraseSpelt, phraseFails, hfails, ite_not]
  | script refs =>
    have hfails : phraseFails (.script refs) = true ↔ ¬ (1 ≤ refs.length ∧ refs.length ≤ 8) := by
      simp only [phraseFails, Bool.or_eq_true, decide_eq_true_eq]; omega
    simp only [readPhrase, phraseSpelt, hfails, ite_not]
  | rotor refs position =>
    have hfails : phraseFails (.rotor refs position) = true ↔
        ¬ (2 ≤ refs.length ∧ refs.length ≤ 4 ∧ position < refs.length) := by
      simp only [phraseFails, Bool.or_eq_true, decide_eq_true_eq]; omega
    simp only [readPhrase, phraseSpelt, hfails, ite_not]
  | link ref | empty | unknown => rfl

/-! ## The image (R147, R148) -/

theorem imageRecord_of_record {im : PhraseImage} {e : Ref} {r : RawPhrase} (h : im.records[e.val]? = some r) :
    imageRecord im e = readPhrase r := by
  simp [imageRecord, h]

theorem imageTable_of_record {im : PhraseImage} {e : Ref} {r : RawPhrase} (h : im.records[e.val]? = some r) :
    (imageTable im)[e] = if phraseFails r then .empty else phraseSpelt r := by
  simp only [imageTable, Fin.getElem_fin, Vector.getElem_ofFn, imageRecord_of_record h, readPhrase_eq]
  split <;> rfl

/-- Counting the places of a list whose item passes is counting the items that pass. -/
theorem length_filter_finRange {α : Type} {n : Nat} {l : List α} (hl : l.length = n) {p : α → Bool}
    {q : Fin n → Bool} (hq : ∀ (i : Fin n) (a : α), l[i.val]? = some a → q i = p a) :
    ((List.finRange n).filter q).length = (l.filter p).length := by
  subst hl
  have hp : q = p ∘ fun i => l[i.val] := funext fun i => hq i _ (List.getElem?_eq_getElem i.isLt)
  conv_rhs => rw [← List.map_getElem_finRange l, List.filter_map, List.length_map]
  rw [hp]

/-- The invalid-entry count is the number of records that R148 fails. -/
theorem imageInvalid_eq {im : PhraseImage} (hl : im.records.length = 256) :
    imageInvalid im = (im.records.filter phraseFails).length := by
  refine length_filter_finRange hl fun e r hr => ?_
  rw [imageRecord_of_record hr, readPhrase_eq]
  cases phraseFails r <;> rfl

theorem imageInvalid_le (im : PhraseImage) : imageInvalid im ≤ 256 :=
  (List.length_filter_le _ _).trans_eq List.length_finRange

/-! ## The load -/

theorem loadTable_table {im : PhraseImage} (hc : im.checkAgrees = true) (cfg : StationConfig) (acu : Acu) :
    (loadTable im cfg acu).table = imageTable im := by
  simp [loadTable, hc]

theorem loadTable_invalid {im : PhraseImage} (hc : im.checkAgrees = true) (cfg : StationConfig) (acu : Acu) :
    (loadTable im cfg acu).invalid = imageInvalid im := by
  simp [loadTable, hc]

/-- Settles O50: the load reads each record for itself, and counts those that give no phrase. -/
theorem failedRecordsLoadEmpty : Obligations.FailedRecordsLoadEmpty := by
  unfold Obligations.FailedRecordsLoadEmpty
  intro im cfg acu hc hl
  rw [loadTable_invalid hc, loadTable_table hc]
  refine ⟨rfl, imageInvalid_eq hl, imageInvalid_le im, fun e r hr => ?_⟩
  exact imageTable_of_record hr

end Sys2Proof.Machine
end
